-- ==== Sys2Proof/Word.lean ====
section
/-! DEFINITION. The bit-vector types of the block's registers and ports (00_scope.md R11, R12; 10_state.md R20),
and the codes of its two state registers (30_encoding.md R79; 10_state.md R29). -/

namespace Sys2Proof

/-- A bus byte, `u8` (00_scope.md R8, BYTE_W). -/
abbrev Byte := BitVec 8

/-- A sample, output or offset: 16 bits, read as `u16` or `s16` where it is used (00_scope.md R8, SAMPLE_W, OUT_W). -/
abbrev Half := BitVec 16

/-- A sensor register address, 7 bits (20_memory.md R50). -/
abbrev Addr := BitVec 7

/-- The phase register's 4-bit code (10_state.md R28). -/
abbrev PhaseCode := BitVec 4

/-- The transaction controller's 2-bit code (10_state.md R29). -/
abbrev BStepCode := BitVec 2

/-- The event vector `rst : cal_pend : tick_pend` (30_encoding.md R76). -/
abbrev EventVec := BitVec 3

/-! The phase codes of 30_encoding.md R79. -/
namespace Phase
abbrev idle : PhaseCode := 0x0
abbrev initW1 : PhaseCode := 0x1
abbrev initW2 : PhaseCode := 0x2
abbrev rdXL : PhaseCode := 0x3
abbrev rdXH : PhaseCode := 0x4
abbrev rdYL : PhaseCode := 0x5
abbrev rdYH : PhaseCode := 0x6
abbrev rdZL : PhaseCode := 0x7
abbrev rdZH : PhaseCode := 0x8
abbrev map : PhaseCode := 0x9
abbrev debounce : PhaseCode := 0xA
abbrev calib : PhaseCode := 0xB
end Phase

/-! The codes of bstep (10_state.md R29). Code 3 is reserved and never written. -/
namespace BStep
abbrev idle : BStepCode := 0
abbrev addr : BStepCode := 1
abbrev data : BStepCode := 2
abbrev reserved : BStepCode := 3
end BStep

end Sys2Proof
end

