-- ==== Sys2Proof/Syntax.lean ====
section
/-! DEFINITION. The block's instructions: one constructor for each row of spec/opcode_table.json. The block has no
instruction set; its "instructions" are the bus frames, the events and the sequencer phases (00_scope.md R2). -/

namespace Sys2Proof

/-- Frames (30_encoding.md R72, R73), events (R76) and phases (R79). -/
inductive Instr where
  /-- READ_REG frame: address `a`, data-phase byte `d` (40_serial_protocol.md R104). -/
  | readReg (a : Addr) (d : Byte)
  /-- WRITE_REG frame: address `a`, value `v` (40_serial_protocol.md R106). -/
  | writeReg (a : Addr) (v : Byte)
  /-- RESET, event vector `1xx`: the two ignored bits are cal_pend and tick_pend (70_reset_and_hazards.md R270). -/
  | reset (calBit tickBit : Bool)
  /-- TICK, event vector `001` (60_exceptions.md R245). -/
  | tick
  /-- CAL, event vector `010` (60_exceptions.md R245). -/
  | cal
  /-- TICK_CAL, event vector `011` (60_exceptions.md R246). -/
  | tickCal
  /-- Phase 0x0: low-power wait and event acceptance (60_exceptions.md R245). -/
  | idle
  /-- Phase 0x1 (46_scheduler.md R222). -/
  | initW1
  /-- Phase 0x2 (46_scheduler.md R222). -/
  | initW2
  /-- Phase 0x3 (41_acquisition.md R122). -/
  | rdXL
  /-- Phase 0x4 (41_acquisition.md R123). -/
  | rdXH
  /-- Phase 0x5 (41_acquisition.md R122). -/
  | rdYL
  /-- Phase 0x6 (41_acquisition.md R123). -/
  | rdYH
  /-- Phase 0x7 (41_acquisition.md R122). -/
  | rdZL
  /-- Phase 0x8 (41_acquisition.md R123). -/
  | rdZH
  /-- Phase 0x9 (43_tilt_mapper.md R166). -/
  | map
  /-- Phase 0xA (45_level_debouncer.md R203). -/
  | debounce
  /-- Phase 0xB (44_calibration.md R182). -/
  | calib
  /-- A reserved phase code, 0xC to 0xF (30_encoding.md R80); `code` is the whole 4-bit code. -/
  | reservedPhase (code : PhaseCode)
  deriving DecidableEq, Repr

/-- The three kinds of word the table encodes (30_encoding.md, opening). -/
inductive Format where
  | frame
  | event
  | phase
  deriving DecidableEq, Repr

/-- Why a word is no instruction. -/
inductive DecodeError where
  /-- Fewer bytes than the format has. -/
  | truncated (f : Format)
  /-- Event vector `000`: nothing is requested (30_encoding.md R76). -/
  | noEvent
  /-- An event byte with a bit above bit 2 set: an event vector has three bits. -/
  | eventHighBits (b : Byte)
  /-- A phase byte with a bit above bit 3 set: a phase code has four bits. -/
  | phaseHighBits (b : Byte)
  deriving DecidableEq, Repr

end Sys2Proof
end

