-- ==== Sys2Proof/Config.lean ====
section
/-! DEFINITION. What an implementation of the block fixes (00_scope.md R9) and the values the spec leaves free.
The fixed constants of 00_scope.md R8 are not here: they stand with the datapath that uses them
(Machine/Operands.lean, Machine/Flags.lean). -/

namespace Sys2Proof.Config

/-- CAL_EDGE (00_scope.md R9, 92_eei_decisions.md D16). -/
inductive Edge where
  | rising
  | falling
  deriving DecidableEq, Repr, Inhabited

/-- LED_ACTIVE_LEVEL (00_scope.md R9, 92_eei_decisions.md D15). -/
inductive Level where
  | high
  | low
  deriving DecidableEq, Repr, Inhabited

/-- ARB_ORDER (00_scope.md R9, 60_exceptions.md R246). Under `any` either request may be taken first, and the model
draws the choice; it is the model default, so it stands first. -/
inductive ArbOrder where
  | any
  | tickFirst
  | calFirst
  deriving DecidableEq, Repr, Inhabited

/-- OVERRUN_POLICY (00_scope.md R9, 60_exceptions.md R241): what the hardware does when a TICK overruns. The spec leaves
it open and names no member of its domain, so its one value says no more than that; the model faults under it (log
entry 18). -/
inductive OverrunPolicy where
  | unspecified
  deriving DecidableEq, Repr, Inhabited

/-- BUS_BIT_ORDER (20_memory.md R54). -/
inductive BitOrder where
  | msbFirst
  | lsbFirst
  deriving DecidableEq, Repr, Inhabited

/-- The electrical and period parameters of 00_scope.md R9 (92_eei_decisions.md D3, D29). No rule of the spec reads
one of them (93_implementation_defined.md I15, I17): they are listed so that a configuration is whole. Times and
rates are numbers of an unstated unit; TICK_PERIOD is positive. -/
structure Electrical where
  clkPolarity : Bool
  clkPhase : Bool
  bitOrder : BitOrder
  busClk : Nat
  csSetup : Nat
  csHold : Nat
  csIdleMin : Nat
  tickPeriod : ℕ+
  pwmPeriod : BitVec 16
  deriving DecidableEq, Repr, Inhabited

/-- A configuration: one value for every parameter of 00_scope.md R9. The types keep every field in its domain;
20_memory.md R55. -/
structure Params where
  addrXL : Addr
  addrXH : Addr
  addrYL : Addr
  addrYH : Addr
  addrZL : Addr
  addrZH : Addr
  cfg1Addr : Addr
  cfg1Val : Byte
  cfg2Addr : Addr
  cfg2Val : Byte
  readDummy : Byte
  outResetX : Half
  outResetY : Half
  calEdge : Edge
  ledActiveLevel : Level
  arbOrder : ArbOrder := .any
  overrunPolicy : OverrunPolicy := .unspecified
  electrical : Electrical
  deriving DecidableEq, Repr, Inhabited

/-- A configuration as it is written before its domains are checked (60_exceptions.md R251, last sentence). -/
structure RawParams where
  addrXL : Nat
  addrXH : Nat
  addrYL : Nat
  addrYH : Nat
  addrZL : Nat
  addrZH : Nat
  cfg1Addr : Nat
  cfg1Val : Nat
  cfg2Addr : Nat
  cfg2Val : Nat
  readDummy : Nat
  outResetX : Nat
  outResetY : Nat
  calEdge : Edge
  ledActiveLevel : Level
  arbOrder : ArbOrder := .any
  overrunPolicy : OverrunPolicy := .unspecified
  clkPolarity : Bool
  clkPhase : Bool
  bitOrder : BitOrder
  busClk : Nat
  csSetup : Nat
  csHold : Nat
  csIdleMin : Nat
  tickPeriod : Nat
  pwmPeriod : Nat
  deriving DecidableEq, Repr

/-- The parameters of the block at hand, fixed and unknown: whatever is proved of them holds for every configuration
(00_scope.md R9; notes/assumptions/2.md). -/
opaque implementation : Params

/-- The configuration a run has unless it names another: the block's parameters, with the model default of ARB_ORDER
(00_scope.md R9, 60_exceptions.md R246). -/
def params : Params := { implementation with arbOrder := .any }

/-! Free values: the registers whose value after a reset the spec leaves unspecified (70_reset_and_hazards.md R273;
93_implementation_defined.md I11, I12), one fresh value for each draw. Log entry 5. -/

/-- sx after the reset that makes draw `n`. -/
opaque unspecSx (n : Nat) : Half
/-- sy after the reset that makes draw `n`. -/
opaque unspecSy (n : Nat) : Half
/-- sz after the reset that makes draw `n`. -/
opaque unspecSz (n : Nat) : Half
/-- lo_buf after the reset that makes draw `n`. -/
opaque unspecLoBuf (n : Nat) : Byte
/-- bus_tx after the reset that makes draw `n`. -/
opaque unspecBusTx (n : Nat) : Byte

/-- The order of a pending tick and a pending calibration when ARB_ORDER = ANY and the environment script names
none: true takes the calibration (60_exceptions.md R246). Log entry 9. -/
opaque freeCalFirst (n : Nat) : Bool

end Sys2Proof.Config
end

