-- ==== Sys2Proof/WellFormed.lean ====
section
/-! DEFINITION. When an instruction or a configuration is one the spec has. -/

namespace Sys2Proof

/-- The widths of the fields admit every frame, event and phase. The one check left: a reserved phase carries a code
of 0xC to 0xF (30_encoding.md R79, R80), since every other code names a phase of its own. -/
def Instr.wellFormed : Instr → Bool
  | .reservedPhase code => decide (0xC ≤ code.toNat)
  | .readReg _ _ | .writeReg _ _ | .reset _ _ | .tick | .cal | .tickCal | .idle | .initW1 | .initW2
  | .rdXL | .rdXH | .rdYL | .rdYH | .rdZL | .rdZH | .map | .debounce | .calib => true

/-- The instruction is one the spec has. -/
abbrev Instr.WellFormed (i : Instr) : Prop := i.wellFormed = true

/-- Which parameter of a configuration lies outside its domain (00_scope.md R9). -/
inductive ConfigRefusal where
  /-- A sensor register address above 0x7F (20_memory.md R55). -/
  | addressTooWide (value : Nat)
  /-- A byte parameter above 0xFF (93_implementation_defined.md I13). -/
  | byteTooWide (value : Nat)
  /-- A 16-bit parameter above 0xFFFF. -/
  | halfTooWide (value : Nat)
  /-- TICK_PERIOD is a positive time. -/
  | tickPeriodZero
  deriving DecidableEq, Repr

end Sys2Proof
end

