-- ==== Sys2Proof/Decode.lean ====
section
/-! DEFINITION. The decoder and the encoder (30_encoding.md R70 to R80). A frame is two bytes, the address byte
first. An event vector or a phase code is one byte with zeros above its bits: the spec stores neither in bytes, and
the byte is the model's (notes/assumptions/3.md). -/

namespace Sys2Proof

/-- 30_encoding.md R71 to R74: bit 15 alone tells a read from a write. -/
def decodeFrame (b0 b1 : Byte) : Instr :=
  if b0.getLsbD 7 then .readReg (b0.extractLsb' 0 7) b1 else .writeReg (b0.extractLsb' 0 7) b1

/-- 30_encoding.md R76. -/
def decodeEvent (ev : EventVec) : Except DecodeError Instr :=
  if ev.getLsbD 2 then .ok (.reset (ev.getLsbD 1) (ev.getLsbD 0))
  else if ev = 0b001 then .ok .tick
  else if ev = 0b010 then .ok .cal
  else if ev = 0b011 then .ok .tickCal
  else .error .noEvent

/-- 30_encoding.md R79, R80: every 4-bit code is a phase or reserved. -/
def decodePhase (p : PhaseCode) : Instr :=
  if p = Phase.idle then .idle
  else if p = Phase.initW1 then .initW1
  else if p = Phase.initW2 then .initW2
  else if p = Phase.rdXL then .rdXL
  else if p = Phase.rdXH then .rdXH
  else if p = Phase.rdYL then .rdYL
  else if p = Phase.rdYH then .rdYH
  else if p = Phase.rdZL then .rdZL
  else if p = Phase.rdZH then .rdZH
  else if p = Phase.map then .map
  else if p = Phase.debounce then .debounce
  else if p = Phase.calib then .calib
  else .reservedPhase p

/-- The instruction at the head of a list of bytes, with the bytes after it. -/
def decode : Format → List Byte → Except DecodeError (Instr × List Byte)
  | .frame, b0 :: b1 :: rest => .ok (decodeFrame b0 b1, rest)
  | .frame, _ => .error (.truncated .frame)
  | .event, b :: rest =>
    if b.extractLsb' 3 5 = 0 then
      match decodeEvent (b.extractLsb' 0 3) with
      | .ok i => .ok (i, rest)
      | .error e => .error e
    else .error (.eventHighBits b)
  | .event, [] => .error (.truncated .event)
  | .phase, b :: rest =>
    if b.extractLsb' 4 4 = 0 then .ok (decodePhase (b.extractLsb' 0 4), rest)
    else .error (.phaseHighBits b)
  | .phase, [] => .error (.truncated .phase)

/-- Which kind of word an instruction is. -/
def formatOf : Instr → Format
  | .readReg _ _ | .writeReg _ _ => .frame
  | .reset _ _ | .tick | .cal | .tickCal => .event
  | .idle | .initW1 | .initW2 | .rdXL | .rdXH | .rdYL | .rdYH | .rdZL | .rdZH | .map | .debounce | .calib
  | .reservedPhase _ => .phase

/-- The address byte of a frame: RW in bit 7, the address in bits 6:0 (30_encoding.md R71). -/
def addressByte (read : Bool) (a : Addr) : Byte := BitVec.ofBool read ++ a

/-- The byte that holds an event vector. -/
def eventByte (ev : EventVec) : Byte := (0 : BitVec 5) ++ ev

/-- The byte that holds a phase code. -/
def phaseByte (p : PhaseCode) : Byte := (0 : BitVec 4) ++ p

/-- The event vector `rst : cal_pend : tick_pend` (30_encoding.md R76). -/
def eventVec (rst cal tick : Bool) : EventVec := BitVec.ofBool rst ++ BitVec.ofBool cal ++ BitVec.ofBool tick

/-- The words of an instruction. -/
def encode : Instr → List Byte
  | .readReg a d => [addressByte true a, d]
  | .writeReg a v => [addressByte false a, v]
  | .reset c t => [eventByte (eventVec true c t)]
  | .tick => [eventByte 0b001]
  | .cal => [eventByte 0b010]
  | .tickCal => [eventByte 0b011]
  | .idle => [phaseByte Phase.idle]
  | .initW1 => [phaseByte Phase.initW1]
  | .initW2 => [phaseByte Phase.initW2]
  | .rdXL => [phaseByte Phase.rdXL]
  | .rdXH => [phaseByte Phase.rdXH]
  | .rdYL => [phaseByte Phase.rdYL]
  | .rdYH => [phaseByte Phase.rdYH]
  | .rdZL => [phaseByte Phase.rdZL]
  | .rdZH => [phaseByte Phase.rdZH]
  | .map => [phaseByte Phase.map]
  | .debounce => [phaseByte Phase.debounce]
  | .calib => [phaseByte Phase.calib]
  | .reservedPhase c => [phaseByte c]

/-- Which format the table's row of `nbits` bits has: 16 bits are a frame, 3 an event vector, 4 a phase code. A row
rounded up to one byte may be an event or a phase and the number does not say which; it is read as a phase code
(notes/assumptions/3.md). -/
def tableFormat (nbits : Nat) : Option Format :=
  if nbits = 16 then some .frame
  else if nbits = 3 then some .event
  else if nbits = 4 ∨ nbits = 8 then some .phase
  else none

/-- The bytes of a table row's word `w`, in the order the block sends or the decoder reads them: a frame's address
byte, bits 15:8, first (30_encoding.md R70). -/
def tableBytes : Format → Nat → List Byte
  | .frame, w => [BitVec.ofNat 8 (w / 256), BitVec.ofNat 8 w]
  | .event, w => [BitVec.ofNat 8 w]
  | .phase, w => [BitVec.ofNat 8 w]

/-- The instruction the decoder reads from the table word `w` of `nbits` bits. -/
def decodeTableWord (nbits w : Nat) : Option Instr :=
  match tableFormat nbits with
  | none => none
  | some f =>
    match decode f (tableBytes f w) with
    | .ok (i, _) => some i
    | .error _ => none

end Sys2Proof
end

