-- ==== Sys2Proof/Machine/State.lean ====
section
/-! DEFINITION. The block's state as plain data (10_state.md R20 to R29) with the model-only state of R32, and
beside it what is not state: the configuration, and the environment script from which the other agents of 00_scope.md
R18 act. -/

namespace Sys2Proof.Machine

/-- What the input ports carry in one step (10_state.md R21), with the draw of 60_exceptions.md R246.
`tick` is a rising edge of port tick, that is one TICK event (60_exceptions.md R241); `calIn` is the level of port
cal_in; `busRx` means something only where `busDone` is true; `calFirst` is the choice of ARB_ORDER = ANY. Log entries
8, 9 and 11. -/
structure Inputs where
  rst : Bool
  tick : Bool
  calIn : Bool
  busDone : Bool
  busRx : Byte
  calFirst : Bool
  deriving DecidableEq, Repr

/-- The model faults of 60_exceptions.md R251. A step records them in State.faults, and the controller is then stuck;
`step` answers one as its outcome when the stuck controller has no environment step left that could reset it (R252).
All are safe: the model stops where the hardware goes on in a way the spec leaves open, or cannot be. -/
inductive Fault where
  /-- F1: a TICK while a sampling cycle is in progress, or while a tick is already pending. Raised by the arrival of a
  TICK (60_exceptions.md R241), with the phase at arrival and tick_pend. Safe. -/
  | tickOverrun (phase : PhaseCode) (tickPend : Bool)
  /-- F2: the phase register holds a reserved code. Raised by RESERVED_PHASE (30_encoding.md R80). Safe. -/
  | reservedPhase (code : PhaseCode)
  /-- F2: bstep holds its reserved code. Raised by every instruction but RESET (30_encoding.md R80). Safe. -/
  | reservedBStep (code : BStepCode)
  deriving DecidableEq, Repr

/-- Why a step has no meaning. -/
inductive Refusal where
  /-- An instruction with no meaning in the model: the arms of exec would raise it. None does. Safe. -/
  | notModelled (mnemonic : String)
  /-- The word that step fetched is no instruction. Raised by step; no state fetches such a word. Safe. -/
  | undecoded (e : DecodeError)
  deriving DecidableEq, Repr

/-- One entry of the event history (10_state.md R32). DESIGN CHOICE, log entry 15. -/
inductive HistEvent where
  /-- A completed bus transaction: register address, the two bytes transmitted, the byte received in the data phase. -/
  | transaction (addr : Addr) (tx0 tx1 : Byte) (rx : Byte)
  /-- A TICK was taken. -/
  | tickTaken
  /-- A CAL was taken. -/
  | calTaken
  /-- out_x changed to this value. -/
  | outX (v : Half)
  /-- out_y changed to this value. -/
  | outY (v : Half)
  /-- ind changed to this value. -/
  | ind (v : Bool)
  deriving DecidableEq, Repr

/-- The state of the block: its registers, `sx` to `busGo`, which are all it has (10_state.md R20), and what a model adds
to them, the fault set and the history (R32), with the fault the controller is stuck on (60_exceptions.md R252). -/
structure Block where
  /-- Axis samples (R22). -/
  sx : Half
  sy : Half
  sz : Half
  /-- Low byte of the axis being read (R22). -/
  loBuf : Byte
  /-- OutputPair (R23). -/
  outX : Half
  outY : Half
  /-- CalibrationOffset (R24). -/
  offX : Half
  offY : Half
  /-- HysteresisCounter (R25). -/
  hcnt : Byte
  /-- Level indicator (R26). -/
  ind : Bool
  /-- Pending flags and edge detector (R27). -/
  tickPend : Bool
  calPend : Bool
  calPrev : Bool
  /-- Sequencer phase (R28). -/
  phase : PhaseCode
  /-- Transaction controller (R29). -/
  bstep : BStepCode
  csN : Bool
  busTx : Byte
  busGo : Bool
  /-- The fault set (R32): no repeats, newest first, never cleared. Log entry 22. -/
  faults : List Fault
  /-- The fault the controller is stuck on, if it is (60_exceptions.md R252); only RESET frees it. -/
  stuck : Option Fault
  /-- The event history (R32), newest first. No rule reads it. -/
  history : List HistEvent
  deriving DecidableEq, Repr

/-- What is not state of the block (00_scope.md R19): its parameters, and the draws, that is what the bus agent answers
and which order ARB_ORDER = ANY takes, with the other inputs of a run. The host's step takes one argument, so they
travel beside the block (notes/assumptions/25.md): no step writes `cfg`, and a step reads the head of `script` only. -/
structure Surroundings where
  /-- The configuration the block was built with (00_scope.md R9). -/
  cfg : Config.Params
  /-- What the input ports will carry, one entry a step, next step first; after its end the environment is quiet
  (70_reset_and_hazards.md R286 (a)). -/
  script : List Inputs
  /-- How many draws of free values the run has made. -/
  draws : Nat
  deriving DecidableEq, Repr

/-- What a step takes and answers: the block's state, and beside it what is not state. -/
structure State extends Block, Surroundings where
  deriving DecidableEq, Repr

/-- The machine right after reset (70_reset_and_hazards.md R273), with nothing recorded and a quiet environment. The
outputs hold the parameters OUT_RESET_X and OUT_RESET_Y; the registers the spec leaves unspecified hold the values of
notes/assumptions/4.md and cal_prev that of notes/assumptions/6.md. -/
def State.reset : State where
  cfg := Config.params
  sx := 0
  sy := 0
  sz := 0
  loBuf := 0
  outX := Config.params.outResetX
  outY := Config.params.outResetY
  offX := 0
  offY := 0
  hcnt := 100
  ind := false
  tickPend := false
  calPend := false
  calPrev := false
  phase := Phase.initW1
  bstep := BStep.idle
  csN := true
  busTx := 0
  busGo := false
  faults := []
  stuck := none
  history := []
  script := []
  draws := 0

end Sys2Proof.Machine
end

