-- ==== Sys2Proof/Machine/Flags.lean ====
section
/-! DEFINITION. Every one-bit test of the block: the magnitude comparators (42_orientation_selector.md R140), the band
comparators (45_level_debouncer.md R201), the edge detector (60_exceptions.md R242) and the overrun test (R241). -/

namespace Sys2Proof.Machine

/-- AXIS_TOL (00_scope.md R8). -/
def axisTol : Int := 170

/-- CENTRE (00_scope.md R8). -/
def centre : Int := 32768

/-- BAND (00_scope.md R8). -/
def band : Int := 4096

/-- HYST_RELOAD (00_scope.md R8). -/
def hystReload : Byte := 100

/-- MagGT (42_orientation_selector.md R140): two strict comparisons on the signed sample, so no absolute value is
formed and -32768 is above tolerance. -/
def magGT (s : Half) : Bool := decide (s.toInt > axisTol) || decide (s.toInt < -axisTol)

/-- InBand (45_level_debouncer.md R201): strict on both sides, on the unsigned output. -/
def inBand (o : Half) : Bool := decide (centre - band < (o.toNat : Int)) && decide ((o.toNat : Int) < centre + band)

/-- The level condition of both outputs (45_level_debouncer.md R201). -/
def levelOf (outX outY : Half) : Bool := inBand outX && inBand outY

/-- The level condition of the state's outputs. -/
def State.level (s : State) : Bool := levelOf s.outX s.outY

/-- An edge of kind CAL_EDGE from the level `prev` to the level `now` (60_exceptions.md R242). -/
def calEdge (kind : Config.Edge) (prev now : Bool) : Bool :=
  match kind with
  | .rising => !prev && now
  | .falling => prev && !now

/-- A sampling cycle is in progress (60_exceptions.md R241, the phases it lists). -/
def inCycle (p : PhaseCode) : Bool :=
  p == Phase.rdXL || p == Phase.rdXH || p == Phase.rdYL || p == Phase.rdYH || p == Phase.rdZL || p == Phase.rdZH ||
    p == Phase.map || p == Phase.debounce

/-- A TICK that arrives in this state is an overrun (60_exceptions.md R241). -/
def State.tickOverruns (s : State) : Bool := inCycle s.phase || s.tickPend

/-- The line level that ind drives (10_state.md R21, 45_level_debouncer.md R209); true is the high level. -/
def State.led (s : State) : Bool :=
  match s.cfg.ledActiveLevel with
  | .high => s.ind
  | .low => !s.ind

end Sys2Proof.Machine
end

