-- ==== Sys2Proof/Machine/Operands.lean ====
section
/-! DEFINITION. How operands are assembled and results computed: the sample assembler (41_acquisition.md R124), the
orientation selector and its multiplexer (42_orientation_selector.md R143, R144), the mapper's lanes
(43_tilt_mapper.md R162 to R166) and the calibration sum (44_calibration.md R182). -/

namespace Sys2Proof.Machine

/-- SCALE (00_scope.md R8). -/
def scale : Int := 200

/-- `wrap16` (00_scope.md R12): an integer mod 2^16. -/
def wrap16 (i : Int) : Half := BitVec.ofInt 16 i

/-- 16-bit negation (00_scope.md R12, last item). -/
def neg16 (v : Half) : Half := wrap16 (0 - (v.toNat : Int))

/-- Assemble (41_acquisition.md R124): high byte in bits 15:8, low byte in bits 7:0, neither sign-extended. -/
def assemble (lo hi : Byte) : Half := hi ++ lo

/-- The orientation selector's outcomes (30_encoding.md R78). -/
inductive Orient where
  | flat
  | rolled
  | pitched
  | neutral
  deriving DecidableEq, Repr

/-- The orientation code (30_encoding.md R78). It is not stored. -/
def orientCode : Orient → BitVec 2
  | .flat => 0b00
  | .rolled => 0b01
  | .pitched => 0b10
  | .neutral => 0b11

/-- The priority chain (42_orientation_selector.md R143): z, then x, then y. -/
def orientOf (sx sy sz : Half) : Orient :=
  if magGT sz then .flat
  else if magGT sx then .rolled
  else if magGT sy then .pitched
  else .neutral

/-- The axis-pair multiplexer (42_orientation_selector.md R144); neutral selects no pair. -/
def selectPair (o : Orient) (sx sy sz : Half) : Option (Half × Half) :=
  match o with
  | .flat => some (sx, neg16 sy)
  | .rolled => some (sz, neg16 sy)
  | .pitched => some (sx, neg16 sz)
  | .neutral => none

/-- One lane of the mapper (43_tilt_mapper.md R166): scale, centre, subtract the offset, exact and then wrapped. -/
def mapLane (raw off : Half) : Half := wrap16 (raw.toInt * scale + centre - off.toInt)

/-- Both outputs (43_tilt_mapper.md R165, R166): the neutral outcome skips the offset. -/
def mapOutputs (sx sy sz offX offY : Half) : Half × Half :=
  match selectPair (orientOf sx sy sz) sx sy sz with
  | some (rawX, rawY) => (mapLane rawX offX, mapLane rawY offY)
  | none => (wrap16 centre, wrap16 centre)

/-- One lane of the calibration sum (44_calibration.md R182), mod 2^16. -/
def calibLane (out off : Half) : Half := wrap16 ((out.toNat : Int) - centre + off.toInt)

/-- The debouncer's next counter and indicator (45_level_debouncer.md R203): decrement first, then test for zero. -/
def debounceNext (level : Bool) (hcnt : Byte) (ind : Bool) : Byte × Bool :=
  if level then
    if hcnt - 1 = 0 then (hystReload, true) else (hcnt - 1, ind)
  else (hystReload, false)

end Sys2Proof.Machine
end

