-- ==== Sys2Proof/Machine/Ops.lean ====
section
/-! DEFINITION. The shared operations over the state: reading the ports of the current step, recording a fault
(60_exceptions.md R251; the block's only "exception"), the byte-level bus transaction (40_serial_protocol.md R101 to
R108), accepting an event (60_exceptions.md R245; the "entry"), reset (70_reset_and_hazards.md R270), and latching the
requests that arrive in a step (60_exceptions.md R241, R242). There is no memory: 10_state.md R20. -/

namespace Sys2Proof.Machine

/-- The ports of a step in which the environment does nothing: no reset, no edge, no completion. DESIGN CHOICE, log
entry 8. -/
def State.quiet (s : State) : Inputs where
  rst := false
  tick := false
  calIn := s.calPrev
  busDone := false
  busRx := 0
  calFirst := Config.freeCalFirst s.draws

/-- What the input ports carry in this step. -/
def State.now (s : State) : Inputs :=
  match s.script with
  | e :: _ => e
  | [] => s.quiet

/-- A fault put into the fault set, which holds no fault twice. -/
def insertFault (f : Fault) (fs : List Fault) : List Fault := if f ∈ fs then fs else f :: fs

/-- `raise` (00_scope.md R15): record the fault; the controller is stuck from the next step on
(60_exceptions.md R251, R252). -/
def State.raise (s : State) (f : Fault) : State :=
  { s with faults := insertFault f s.faults, stuck := some f }

/-- The history entries for what differs in out_x, out_y and ind (10_state.md R32). DESIGN CHOICE, log entry 15. -/
def changes (old new : State) : List HistEvent :=
  (if old.ind = new.ind then [] else [.ind new.ind]) ++
    ((if old.outY = new.outY then [] else [.outY new.outY]) ++
      (if old.outX = new.outX then [] else [.outX new.outX]))

/-- `new` with the changes since `old` recorded in its history. -/
def recordChanges (old new : State) : State :=
  { new with history := changes old new ++ new.history }

/-- A state with bstep's reserved code has no step but the recording of F2 (30_encoding.md R80); any other state
takes `k`. DEDUCED, log entry 20. -/
def unlessReserved (s : State) (k : State → State) : State :=
  if s.bstep = BStep.reserved then s.raise (.reservedBStep s.bstep) else k s

/-! ### The bus transaction -/

/-- Step T0 (40_serial_protocol.md R104, R106): select the sensor and issue the address byte. -/
def State.issueAddress (s : State) (b : Byte) : State :=
  { s with csN := false, busTx := b, busGo := true, bstep := BStep.addr }

/-- Step T1: the address byte was exchanged; issue the data byte. The byte received is discarded. -/
def State.issueData (s : State) (b : Byte) : State :=
  { s with busTx := b, busGo := true, bstep := BStep.data }

/-- A wait for the bus: bus_go was a one-step pulse (40_serial_protocol.md R101); nothing else moves. DESIGN CHOICE, log
entry 13. -/
def State.holdBus (s : State) : State := { s with busGo := false }

/-- Step T2: the data byte was exchanged; deselect, and record the transaction (10_state.md R32). -/
def State.completeBus (s : State) (b0 b1 rx : Byte) : State :=
  { s with csN := true, busGo := false, bstep := BStep.idle
           history := .transaction (b0.extractLsb' 0 7) b0 b1 rx :: s.history }

/-- One controller step of the transaction that sends `b0` then `b1` (40_serial_protocol.md R104, R106, R107), with
the byte received in the data phase when this step is its T2. DEDUCED, log entries 14 and 16. -/
def transact (s : State) (b0 b1 : Byte) : State × Option Byte :=
  if s.bstep = BStep.idle then (s.issueAddress b0, none)
  else if s.bstep = BStep.addr then
    if s.now.busDone then (s.issueData b1, none) else (s.holdBus, none)
  else if s.bstep = BStep.data then
    if s.now.busDone then (s.completeBus b0 b1 s.now.busRx, some s.now.busRx) else (s.holdBus, none)
  else (s.raise (.reservedBStep s.bstep), none)

/-- What the calling phase does in the transaction's T2, together with it (46_scheduler.md R224). -/
def onResult (r : State × Option Byte) (k : State → Byte → State) : State :=
  match r.2 with
  | some d => k r.1 d
  | none => r.1

/-- One step of the phase that reads register `a` (41_acquisition.md R122, R123). -/
def readPhase (s : State) (a : Addr) (k : State → Byte → State) : State :=
  onResult (transact s (addressByte true a) s.cfg.readDummy) k

/-- One step of the phase that writes `v` to register `a` and then goes to phase `p` (46_scheduler.md R222). -/
def writePhase (s : State) (a : Addr) (v : Byte) (p : PhaseCode) : State :=
  onResult (transact s (addressByte false a) v) (fun t _ => { t with phase := p })

/-- A low byte received: keep it and go to phase `p` (41_acquisition.md R122). -/
def State.takeLow (s : State) (d : Byte) (p : PhaseCode) : State := { s with loBuf := d, phase := p }

/-- A high byte received: assemble the x sample (41_acquisition.md R123). -/
def State.takeHighX (s : State) (d : Byte) : State :=
  { s with sx := assemble s.loBuf d, phase := Phase.rdYL }

/-- A high byte received: assemble the y sample (41_acquisition.md R123). -/
def State.takeHighY (s : State) (d : Byte) : State :=
  { s with sy := assemble s.loBuf d, phase := Phase.rdZL }

/-- A high byte received: assemble the z sample (41_acquisition.md R123). -/
def State.takeHighZ (s : State) (d : Byte) : State :=
  { s with sz := assemble s.loBuf d, phase := Phase.map }

/-! ### The one-step phases -/

/-- MAP's commit (43_tilt_mapper.md R166): both outputs at once. -/
def State.commitOutputs (s : State) : State :=
  recordChanges s
    { s with outX := (mapOutputs s.sx s.sy s.sz s.offX s.offY).1
             outY := (mapOutputs s.sx s.sy s.sz s.offX s.offY).2
             phase := Phase.debounce }

/-- DEBOUNCE's write (45_level_debouncer.md R203). -/
def State.debounced (s : State) : State :=
  recordChanges s
    { s with hcnt := (debounceNext s.level s.hcnt s.ind).1
             ind := (debounceNext s.level s.hcnt s.ind).2
             phase := Phase.idle }

/-- CALIB's write (44_calibration.md R182). -/
def State.calibrated (s : State) : State :=
  { s with offX := calibLane s.outX s.offX, offY := calibLane s.outY s.offY, phase := Phase.idle }

/-! ### Events -/

/-- A pending tick is taken (60_exceptions.md R245, case (0, 1)). -/
def State.acceptTick (s : State) : State :=
  { s with tickPend := false, phase := Phase.rdXL, history := .tickTaken :: s.history }

/-- A pending calibration is taken (60_exceptions.md R245, case (1, 0)). -/
def State.acceptCal (s : State) : State :=
  { s with calPend := false, phase := Phase.calib, history := .calTaken :: s.history }

/-- Whether the calibration goes first when both are pending (60_exceptions.md R246). DESIGN CHOICE, log entry 9. -/
def State.calGoesFirst (s : State) : Bool :=
  match s.cfg.arbOrder with
  | .tickFirst => false
  | .calFirst => true
  | .any => s.now.calFirst

/-- One more draw has been made. -/
def State.drawn (s : State) : State := { s with draws := s.draws + 1 }

/-- Both are pending: one is taken, the other stays (60_exceptions.md R246). -/
def State.acceptBoth (s : State) : State :=
  if s.calGoesFirst then s.acceptCal.drawn else s.acceptTick.drawn

/-- Events are taken only in IDLE (30_encoding.md R77); in any other phase a request waits. DEDUCED, log entry 19. -/
def inIdle (s : State) (k : State → State) : State :=
  unlessReserved s (fun s => if s.phase = Phase.idle then k s else s)

/-- Reset, from any state (70_reset_and_hazards.md R270, R271, R273): every register at its reset value, whatever was
in progress abandoned, the fault set and the history kept. The unspecified registers take free values (DESIGN CHOICE,
log entry 5). Lifting the stuck mark is DEDUCED, log entry 7. -/
def State.resetRegs (s : State) : State :=
  { s with
    sx := Config.unspecSx s.draws
    sy := Config.unspecSy s.draws
    sz := Config.unspecSz s.draws
    loBuf := Config.unspecLoBuf s.draws
    outX := s.cfg.outResetX
    outY := s.cfg.outResetY
    offX := 0
    offY := 0
    hcnt := hystReload
    ind := false
    tickPend := false
    calPend := false
    calPrev := s.now.calIn
    phase := Phase.initW1
    bstep := BStep.idle
    csN := true
    busTx := Config.unspecBusTx s.draws
    busGo := false
    stuck := none
    draws := s.draws + 1 }

/-- Reset with what it changes on the outputs and the indicator recorded. -/
def State.applyReset (s : State) : State := recordChanges s s.resetRegs

/-! ### Arrivals -/

/-- A TICK that overran in state `s`, recorded in `t` (60_exceptions.md R241). What the hardware does is OVERRUN_POLICY,
which the spec leaves open: the model faults under its one value. -/
def State.overrun (s t : State) : State :=
  match s.cfg.overrunPolicy with
  | .unspecified => t.raise (.tickOverrun s.phase s.tickPend)

/-- A TICK that arrives in state `s`, latched into `t`, the state after the controller's own writes of the step
(60_exceptions.md R241): the test reads the state before the step, and the set wins over the acceptance's clear.
DEDUCED, log entries 11 and 12. -/
def latchTick (s t : State) : State :=
  if s.now.tick then
    if s.tickOverruns then s.overrun t else { t with tickPend := true }
  else t

/-- The calibration input sampled in state `s`, latched into `t` (60_exceptions.md R242): an edge sets cal_pend, and
the set wins over the acceptance's clear (R245). -/
def latchCal (s t : State) : State :=
  { t with calPend := t.calPend || calEdge s.cfg.calEdge s.calPrev s.now.calIn, calPrev := s.now.calIn }

/-- The step's script entry is spent. -/
def State.dropInput (s : State) : State := { s with script := s.script.tail }

/-- What a step does beside the controller's own transition from `s` to `t`: latch the requests that arrive, unless
reset ignores them (60_exceptions.md R243), and spend the script entry. -/
def finishStep (s t : State) : State :=
  if s.now.rst then t.dropInput else (latchCal s (latchTick s t)).dropInput

/-- What a step answers before any instruction is fetched: a stuck controller has no step (60_exceptions.md R252)
unless reset arrives. While the script goes on, only it moves; at its end nothing can free the controller and the step
is the fault. DEDUCED, log entries 7 and 17. -/
def heldBefore (s : State) : Option (Host.Outcome State Fault Refusal) :=
  if s.now.rst then none
  else
    match s.stuck with
    | none => none
    | some f =>
      match s.script with
      | [] => some (.fault f)
      | _ :: _ => some (.next s.dropInput)

/-- The step's outcome from the instruction's. -/
def afterExec (s : State) (o : Host.Outcome State Fault Refusal) : Host.Outcome State Fault Refusal :=
  match o with
  | .next t => .next (finishStep s t)
  | .fault f => .fault f
  | .refused r => .refused r

end Sys2Proof.Machine
end

