-- ==== Sys2Proof/Machine/Acquire.lean ====
section
/-! DEFINITION. The six reads of a sampling cycle (41_acquisition.md R121 to R123). -/

namespace Sys2Proof.Machine

/-- 41_acquisition.md R122, axis x. -/
def execRdXL (s : State) : Host.Outcome State Fault Refusal :=
  .next (readPhase s s.cfg.addrXL (fun t d => t.takeLow d Phase.rdXH))

/-- 41_acquisition.md R123, axis x. -/
def execRdXH (s : State) : Host.Outcome State Fault Refusal :=
  .next (readPhase s s.cfg.addrXH State.takeHighX)

/-- 41_acquisition.md R122, axis y. -/
def execRdYL (s : State) : Host.Outcome State Fault Refusal :=
  .next (readPhase s s.cfg.addrYL (fun t d => t.takeLow d Phase.rdYH))

/-- 41_acquisition.md R123, axis y. -/
def execRdYH (s : State) : Host.Outcome State Fault Refusal :=
  .next (readPhase s s.cfg.addrYH State.takeHighY)

/-- 41_acquisition.md R122, axis z. -/
def execRdZL (s : State) : Host.Outcome State Fault Refusal :=
  .next (readPhase s s.cfg.addrZL (fun t d => t.takeLow d Phase.rdZH))

/-- 41_acquisition.md R123, axis z. -/
def execRdZH (s : State) : Host.Outcome State Fault Refusal :=
  .next (readPhase s s.cfg.addrZH State.takeHighZ)

end Sys2Proof.Machine
end

