-- ==== Sys2Proof/Machine/Bus.lean ====
section
/-! DEFINITION. The bus frames and the startup writes: READ_REG, WRITE_REG (40_serial_protocol.md R104, R106), INIT_W1,
INIT_W2 (46_scheduler.md R222). Each meaning is one controller step of the transaction, chosen by bstep. -/

namespace Sys2Proof.Machine

/-- 40_serial_protocol.md R104. A frame alone writes only the transaction registers (R105); its result stands in the
history, and a calling phase takes it (41_acquisition.md R122, R123). -/
def execReadReg (a : Addr) (d : Byte) (s : State) : Host.Outcome State Fault Refusal :=
  .next (transact s (addressByte true a) d).1

/-- 40_serial_protocol.md R106. -/
def execWriteReg (a : Addr) (v : Byte) (s : State) : Host.Outcome State Fault Refusal :=
  .next (transact s (addressByte false a) v).1

/-- 46_scheduler.md R222. -/
def execInitW1 (s : State) : Host.Outcome State Fault Refusal :=
  .next (writePhase s s.cfg.cfg1Addr s.cfg.cfg1Val Phase.initW2)

/-- 46_scheduler.md R222. -/
def execInitW2 (s : State) : Host.Outcome State Fault Refusal :=
  .next (writePhase s s.cfg.cfg2Addr s.cfg.cfg2Val Phase.idle)

end Sys2Proof.Machine
end

