-- ==== Sys2Proof/Machine/Compute.lean ====
section
/-! DEFINITION. The phases of one step: MAP (43_tilt_mapper.md R166), DEBOUNCE (45_level_debouncer.md R203), CALIB
(44_calibration.md R182), and the reserved phases (30_encoding.md R80). -/

namespace Sys2Proof.Machine

/-- 43_tilt_mapper.md R166. -/
def execMap (s : State) : Host.Outcome State Fault Refusal := .next (unlessReserved s State.commitOutputs)

/-- 45_level_debouncer.md R203. -/
def execDebounce (s : State) : Host.Outcome State Fault Refusal := .next (unlessReserved s State.debounced)

/-- 44_calibration.md R182. -/
def execCalib (s : State) : Host.Outcome State Fault Refusal := .next (unlessReserved s State.calibrated)

/-- 30_encoding.md R80: the step records F2 with the code, and the controller is stuck. -/
def execReservedPhase (code : PhaseCode) (s : State) : Host.Outcome State Fault Refusal :=
  .next (unlessReserved (s.raise (.reservedPhase code)) id)

end Sys2Proof.Machine
end

