-- ==== Sys2Proof/Machine/Events.lean ====
section
/-! DEFINITION. The events: RESET (70_reset_and_hazards.md R270), TICK, CAL and TICK_CAL (60_exceptions.md R245, R246),
and phase IDLE, in which they are taken (R245). -/

namespace Sys2Proof.Machine

/-- 70_reset_and_hazards.md R270, in any phase; the two low bits of the vector are ignored (30_encoding.md R76). Log
entry 21. -/
def execReset (_calBit _tickBit : Bool) (s : State) : Host.Outcome State Fault Refusal := .next s.applyReset

/-- 60_exceptions.md R245, case (0, 1). -/
def execTick (s : State) : Host.Outcome State Fault Refusal := .next (inIdle s State.acceptTick)

/-- 60_exceptions.md R245, case (1, 0). -/
def execCal (s : State) : Host.Outcome State Fault Refusal := .next (inIdle s State.acceptCal)

/-- 60_exceptions.md R246. -/
def execTickCal (s : State) : Host.Outcome State Fault Refusal := .next (inIdle s State.acceptBoth)

/-- 60_exceptions.md R245, all four cases; with nothing pending there is no controller step. -/
def execIdle (s : State) : Host.Outcome State Fault Refusal :=
  .next (inIdle s (fun s =>
    match s.calPend, s.tickPend with
    | false, false => s
    | false, true => s.acceptTick
    | true, false => s.acceptCal
    | true, true => s.acceptBoth))

end Sys2Proof.Machine
end

