-- ==== Sys2Proof/Machine/Dispatch.lean ====
section
/-! DEFINITION. The meaning of every instruction, one arm each. -/

namespace Sys2Proof.Machine

def exec (i : Instr) (s : State) : Host.Outcome State Fault Refusal :=
  match i with
  | .readReg a d => Sys2Proof.Machine.execReadReg a d s
  | .writeReg a v => Sys2Proof.Machine.execWriteReg a v s
  | .reset calBit tickBit => Sys2Proof.Machine.execReset calBit tickBit s
  | .tick => Sys2Proof.Machine.execTick s
  | .cal => Sys2Proof.Machine.execCal s
  | .tickCal => Sys2Proof.Machine.execTickCal s
  | .idle => Sys2Proof.Machine.execIdle s
  | .initW1 => Sys2Proof.Machine.execInitW1 s
  | .initW2 => Sys2Proof.Machine.execInitW2 s
  | .rdXL => Sys2Proof.Machine.execRdXL s
  | .rdXH => Sys2Proof.Machine.execRdXH s
  | .rdYL => Sys2Proof.Machine.execRdYL s
  | .rdYH => Sys2Proof.Machine.execRdYH s
  | .rdZL => Sys2Proof.Machine.execRdZL s
  | .rdZH => Sys2Proof.Machine.execRdZH s
  | .map => Sys2Proof.Machine.execMap s
  | .debounce => Sys2Proof.Machine.execDebounce s
  | .calib => Sys2Proof.Machine.execCalib s
  | .reservedPhase code => Sys2Proof.Machine.execReservedPhase code s

end Sys2Proof.Machine
end

