-- ==== Sys2Proof/Machine/Fetch.lean ====
section
/-! DEFINITION. Which word the sequencer decodes in a state (30_encoding.md R76, R77, R79), and placing a word of the
opcode table there. The block has no program: it decodes its event vector and its phase register. -/

namespace Sys2Proof.Machine

/-- The event vector of this step (30_encoding.md R76). -/
def State.eventVector (s : State) : EventVec := eventVec s.now.rst s.calPend s.tickPend

/-- The event vector is decoded when reset arrives, in any phase, and in IDLE when a request is pending
(30_encoding.md R77); otherwise the phase is. -/
def State.fetchesEvent (s : State) : Bool := s.now.rst || (s.phase == Phase.idle && (s.calPend || s.tickPend))

/-- The kind of word fetched. -/
def State.fetchFormat (s : State) : Format := if s.fetchesEvent then .event else .phase

/-- The word fetched. -/
def State.fetchBytes (s : State) : List Byte :=
  if s.fetchesEvent then [eventByte s.eventVector] else [phaseByte s.phase]

/-- The instruction fetched. -/
def State.fetch (s : State) : Except DecodeError Instr :=
  match decode s.fetchFormat s.fetchBytes with
  | .ok (i, _) => .ok i
  | .error e => .error e

/-- The step's ports without a reset, and the controller free to step. -/
def State.ready (s : State) : State :=
  { s with stuck := none
           script := match s.script with
             | [] => []
             | e :: rest => { e with rst := false } :: rest }

/-- A frame runs in the phase that issues it. The block issues only its parameters' frames (30_encoding.md R75), so
the parameters are set to the frame's fields (notes/assumptions/10.md). -/
def State.placeFrame (s : State) (b0 b1 : Byte) : State :=
  if b0.getLsbD 7 then
    { s.ready with phase := Phase.rdXL, cfg := { s.cfg with addrXL := b0.extractLsb' 0 7, readDummy := b1 } }
  else
    { s.ready with phase := Phase.initW1, cfg := { s.cfg with cfg1Addr := b0.extractLsb' 0 7, cfg1Val := b1 } }

/-- An event vector is the reset port and the two pending flags, decoded in IDLE. -/
def State.placeEvent (s : State) (ev : EventVec) : State :=
  if ev.getLsbD 2 then
    { s with tickPend := ev.getLsbD 0, calPend := ev.getLsbD 1
             script := { s.now with rst := true } :: s.script.tail }
  else { s.ready with phase := Phase.idle, tickPend := ev.getLsbD 0, calPend := ev.getLsbD 1 }

/-- A phase code is the phase register; with nothing pending, so that phase IDLE decodes as itself. -/
def State.placePhase (s : State) (p : PhaseCode) : State :=
  { s.ready with phase := p, tickPend := if p = Phase.idle then false else s.tickPend
                 calPend := if p = Phase.idle then false else s.calPend }

/-- A word of the opcode table placed where the next step decodes it. -/
def State.placeWord (s : State) (nbits w : Nat) : State :=
  match tableFormat nbits with
  | some .frame => s.placeFrame (BitVec.ofNat 8 (w / 256)) (BitVec.ofNat 8 w)
  | some .event => s.placeEvent (BitVec.ofNat 3 w)
  | some .phase => s.placePhase (BitVec.ofNat 4 w)
  | none => s

end Sys2Proof.Machine
end

