-- ==== Sys2Proof/Machine/Step.lean ====
section
/-! DEFINITION. One step of the machine: one controller step (40_serial_protocol.md R100) together with what the other
agents do in it. -/

namespace Sys2Proof.Machine

/-- A stuck controller holds; any other state decodes its word, runs the instruction, and latches what arrived. -/
def step (s : State) : Host.Outcome State Fault Refusal :=
  match heldBefore s with
  | some o => o
  | none =>
    match s.fetch with
    | .ok i => afterExec s (exec i s)
    | .error e => .refused (.undecoded e)

/-- The table word placed where the next step decodes it (notes/assumptions/10.md). -/
def State.withFetchWord (s : State) (nbits w : Nat) : State := s.placeWord nbits w

end Sys2Proof.Machine
end

