-- ==== Sys2Proof/Machine/Configure.lean ====
section
/-! DEFINITION. Checking a configuration before a run (00_scope.md R9; 20_memory.md R55; 60_exceptions.md R251: "A
configuration that sets a parameter outside its domain is refused before the run"). -/

namespace Sys2Proof.Machine

/-- A 7-bit address. -/
def checkAddr (v : Nat) : Except ConfigRefusal Addr :=
  if v < 128 then .ok (BitVec.ofNat 7 v) else .error (.addressTooWide v)

/-- An 8-bit value. -/
def checkByte (v : Nat) : Except ConfigRefusal Byte :=
  if v < 256 then .ok (BitVec.ofNat 8 v) else .error (.byteTooWide v)

/-- A 16-bit value. -/
def checkHalf (v : Nat) : Except ConfigRefusal Half :=
  if v < 65536 then .ok (BitVec.ofNat 16 v) else .error (.halfTooWide v)

/-- A positive time. -/
def checkPeriod (v : Nat) : Except ConfigRefusal ℕ+ := if h : 0 < v then .ok ⟨v, h⟩ else .error .tickPeriodZero

/-- The configuration, or the first parameter outside its domain. DESIGN CHOICE, log entry 23. -/
def configure (r : Config.RawParams) : Except ConfigRefusal Config.Params := do
  let addrXL ← checkAddr r.addrXL
  let addrXH ← checkAddr r.addrXH
  let addrYL ← checkAddr r.addrYL
  let addrYH ← checkAddr r.addrYH
  let addrZL ← checkAddr r.addrZL
  let addrZH ← checkAddr r.addrZH
  let cfg1Addr ← checkAddr r.cfg1Addr
  let cfg1Val ← checkByte r.cfg1Val
  let cfg2Addr ← checkAddr r.cfg2Addr
  let cfg2Val ← checkByte r.cfg2Val
  let readDummy ← checkByte r.readDummy
  let outResetX ← checkHalf r.outResetX
  let outResetY ← checkHalf r.outResetY
  let tickPeriod ← checkPeriod r.tickPeriod
  let pwmPeriod ← checkHalf r.pwmPeriod
  return {
    addrXL, addrXH, addrYL, addrYH, addrZL, addrZH, cfg1Addr, cfg1Val, cfg2Addr, cfg2Val, readDummy, outResetX
    outResetY, calEdge := r.calEdge, ledActiveLevel := r.ledActiveLevel, arbOrder := r.arbOrder
    overrunPolicy := r.overrunPolicy
    electrical := {
      clkPolarity := r.clkPolarity, clkPhase := r.clkPhase, bitOrder := r.bitOrder, busClk := r.busClk
      csSetup := r.csSetup, csHold := r.csHold, csIdleMin := r.csIdleMin, tickPeriod, pwmPeriod } }

/-- The machine right after reset, built with the configuration `p` (70_reset_and_hazards.md R273). -/
def State.resetWith (p : Config.Params) : State :=
  { State.reset with cfg := p, outX := p.outResetX, outY := p.outResetY }

end Sys2Proof.Machine
end

