-- ==== Sys2Proof/Machine/Program.lean ====
section
/-! DEFINITION. The event-program notation of 30_encoding.md R83 and R84: what each line of a program is, the frames it
causes on the bus, and the environment script that gives it to a block in IDLE with a bus that completes at once. The
block has no program of its own (00_scope.md R2). -/

namespace Sys2Proof.Machine

/-- The six bytes of one sampling cycle (30_encoding.md R83). -/
structure Reading where
  xl : Byte
  xh : Byte
  yl : Byte
  yh : Byte
  zl : Byte
  zh : Byte
  deriving DecidableEq, Repr

/-- The bytes in the order of the six reads (41_acquisition.md R121). -/
def Reading.bytes (r : Reading) : List Byte := [r.xl, r.xh, r.yl, r.yh, r.zl, r.zh]

/-- The bytes of three samples: the expansion of `CYCLE x, y, z` (30_encoding.md R83). -/
def Reading.ofSamples (x y z : Half) : Reading where
  xl := x.extractLsb' 0 8
  xh := x.extractLsb' 8 8
  yl := y.extractLsb' 0 8
  yh := y.extractLsb' 8 8
  zl := z.extractLsb' 0 8
  zh := z.extractLsb' 8 8

/-- A step in which the environment does nothing, cal_in staying at `lvl`. -/
def quietInput (lvl : Bool) : Inputs :=
  { rst := false, tick := false, calIn := lvl, busDone := false, busRx := 0, calFirst := false }

/-- A step in which a TICK arrives. -/
def tickInput (lvl : Bool) : Inputs := { quietInput lvl with tick := true }

/-- A step in which the bus agent completes an exchange with the received byte `b`. -/
def doneInput (lvl : Bool) (b : Byte) : Inputs := { quietInput lvl with busDone := true, busRx := b }

/-- The environment of one transaction whose exchanges complete at once: `junk` comes with the address byte, `b` with
the data byte. -/
def transactionScript (lvl : Bool) (junk b : Byte) : List Inputs :=
  [quietInput lvl, doneInput lvl junk, doneInput lvl b]

/-- The environment of a cycle after its acceptance: six transactions complete at once, and MAP and DEBOUNCE run. -/
def readingScript (lvl : Bool) (junk : Byte) (r : Reading) : List Inputs :=
  transactionScript lvl junk r.xl ++ transactionScript lvl junk r.xh ++ transactionScript lvl junk r.yl ++
    transactionScript lvl junk r.yh ++ transactionScript lvl junk r.zl ++ transactionScript lvl junk r.zh ++
    [quietInput lvl, quietInput lvl]

/-- The environment of one sampling cycle: the TICK arrives, is taken, and the cycle runs. 22 steps, one more than
46_scheduler.md R227 counts from the acceptance. -/
def cycleScript (lvl : Bool) (junk : Byte) (r : Reading) : List Inputs :=
  [tickInput lvl, quietInput lvl] ++ readingScript lvl junk r

/-- The lines of a program (30_encoding.md R83). -/
inductive Line where
  | rst
  | tick (r : Reading)
  | cal
  /-- A tick and a calibration request pending together; the line states the order taken. -/
  | tickCal (calFirst : Bool) (r : Reading)
  /-- A frame, for listing only. -/
  | rd (a : Addr)
  /-- A frame, for listing only. -/
  | wr (a : Addr) (v : Byte)
  deriving DecidableEq, Repr

/-- The pseudo-instruction `CYCLE x, y, z` (30_encoding.md R83). -/
def Line.cycle (x y z : Half) : Line := .tick (Reading.ofSamples x y z)

/-- A read frame as a 16-bit pattern (30_encoding.md R70, R72). -/
def readFrame (cfg : Config.Params) (a : Addr) : BitVec 16 := addressByte true a ++ cfg.readDummy

/-- A write frame as a 16-bit pattern (30_encoding.md R70, R73). -/
def writeFrame (a : Addr) (v : Byte) : BitVec 16 := addressByte false a ++ v

/-- The six frames of a sampling cycle (30_encoding.md R75). -/
def cycleFrames (cfg : Config.Params) : List (BitVec 16) :=
  [cfg.addrXL, cfg.addrXH, cfg.addrYL, cfg.addrYH, cfg.addrZL, cfg.addrZH].map (readFrame cfg)

/-- The frames that a line causes (30_encoding.md R84). -/
def Line.frames (cfg : Config.Params) : Line → List (BitVec 16)
  | .rst => [writeFrame cfg.cfg1Addr cfg.cfg1Val, writeFrame cfg.cfg2Addr cfg.cfg2Val]
  | .tick _ => cycleFrames cfg
  | .cal => []
  | .tickCal _ _ => cycleFrames cfg
  | .rd a => [readFrame cfg a]
  | .wr a v => [writeFrame a v]

/-- The frame that a history entry records, with the byte received in its data phase. -/
def HistEvent.frame : HistEvent → Option (BitVec 16 × Byte)
  | .transaction _ b0 b1 rx => some (b0 ++ b1, rx)
  | .tickTaken => none
  | .calTaken => none
  | .outX _ => none
  | .outY _ => none
  | .ind _ => none

/-- The level of cal_in from which an edge of kind CAL_EDGE starts. -/
def restLevel (cfg : Config.Params) : Bool :=
  match cfg.calEdge with
  | .rising => false
  | .falling => true

/-- A step with rst = 1. -/
def resetInput (lvl : Bool) : Inputs := { quietInput lvl with rst := true }

/-- The environment of a line (30_encoding.md R83): it starts and ends with the block in IDLE and cal_in at its rest
level, and every exchange completes at once (DESIGN CHOICE, log entry 24). A frame alone is for listing and has none. -/
def Line.script (cfg : Config.Params) (l : Line) : List Inputs :=
  let lvl := restLevel cfg
  match l with
  | .rst => resetInput lvl :: (transactionScript lvl 0 0 ++ transactionScript lvl 0 0)
  | .tick r => cycleScript lvl 0 r
  | .cal => [quietInput !lvl, quietInput lvl, quietInput lvl]
  | .tickCal true r =>
    tickInput (!lvl) :: { quietInput lvl with calFirst := true } :: quietInput lvl :: quietInput lvl ::
      readingScript lvl 0 r
  | .tickCal false r =>
    tickInput (!lvl) :: quietInput lvl :: (readingScript lvl 0 r ++ [quietInput lvl, quietInput lvl])
  | .rd _ => []
  | .wr _ _ => []

/-- The environment of a program. -/
def programScript (cfg : Config.Params) (p : List Line) : List Inputs := p.flatMap (Line.script cfg)

end Sys2Proof.Machine
end

