-- ==== Sys2Proof/Safety.lean ====
section
/-! DEFINITION. What counts as a legal state, a good run and the end of one, and the words the statements use for
stretches of a run. -/

namespace Sys2Proof.Machine

/-- The six phases that read and the two that write: the users of the transaction controller (40_serial_protocol.md
R110). -/
def busPhase (p : PhaseCode) : Bool := decide (1 ≤ p.toNat) && decide (p.toNat ≤ 8)

/-- The states a run from reset can be in (45_level_debouncer.md R204; 30_encoding.md R80; 40_serial_protocol.md R101,
R107, R110): hcnt in 1..100, no reserved code, chip-select asserted exactly while a transaction is in progress, bus_go
only then, and a transaction only in a phase that uses the bus. -/
abbrev State.Legal (s : State) : Prop :=
  (1 ≤ s.hcnt.toNat ∧ s.hcnt.toNat ≤ 100) ∧ s.phase.toNat ≤ 11 ∧ s.bstep ≠ BStep.reserved ∧
    (s.csN = false ↔ s.bstep = BStep.addr ∨ s.bstep = BStep.data) ∧
    (s.busGo = true → s.bstep ≠ BStep.idle) ∧ (s.bstep ≠ BStep.idle → busPhase s.phase = true)

/-- The indicator is ON only while the outputs on the ports are in the band. MAP may have written new outputs that
DEBOUNCE has not yet judged. -/
abbrev State.IndicatorTruthful (s : State) : Prop :=
  s.phase ≠ Phase.debounce → s.ind = true → s.level = true

/-- No fault is recorded: a run that records one is not a good run (60_exceptions.md R251). -/
abbrev State.Good (s : State) : Prop := s.faults = []

/-- The controller waits for the bus (60_exceptions.md R251, H1). -/
abbrev State.WaitsForBus (s : State) : Prop :=
  s.stuck = none ∧ busPhase s.phase = true ∧ (s.bstep = BStep.addr ∨ s.bstep = BStep.data)

/-- The low-power wait (60_exceptions.md R251, H2). -/
abbrev State.WaitsInIdle (s : State) : Prop :=
  s.stuck = none ∧ s.phase = Phase.idle ∧ s.bstep = BStep.idle ∧ s.tickPend = false ∧ s.calPend = false

/-- End (a) of a run, the good one (70_reset_and_hazards.md R286). -/
abbrev State.EndsWell (s : State) : Prop := s.Good ∧ s.WaitsInIdle ∧ s.script = []

/-- End (b) (70_reset_and_hazards.md R286): a fault is recorded. -/
abbrev State.EndsFaulted (s : State) : Prop := s.faults ≠ []

/-- End (c) (70_reset_and_hazards.md R286): the bus agent will never complete the exchange, and no reset comes. -/
abbrev State.EndsHung (s : State) : Prop :=
  s.WaitsForBus ∧ ∀ e ∈ s.script, e.busDone = false ∧ e.rst = false

/-- The instructions of a list executed one after the other, with no arrivals between them. -/
def execAll : List Instr → State → Host.Outcome State Fault Refusal
  | [], s => .next s
  | i :: is, s =>
    match exec i s with
    | .next t => execAll is t
    | .fault f => .fault f
    | .refused r => .refused r

/-- `n` steps of the machine. -/
def steps : Nat → State → Host.Outcome State Fault Refusal
  | 0, s => .next s
  | n + 1, s =>
    match step s with
    | .next t => steps n t
    | .fault f => .fault f
    | .refused r => .refused r

/-- The outputs that a reading gives under given offsets. -/
def Reading.outputs (r : Reading) (offX offY : Half) : Half × Half :=
  mapOutputs (assemble r.xl r.xh) (assemble r.yl r.yh) (assemble r.zl r.zh) offX offY

/-- In IDLE, nothing in progress and nothing pending: where an operation starts and ends (60_exceptions.md R244). -/
abbrev State.AtRest (s : State) : Prop := s.WaitsInIdle ∧ s.csN = true ∧ s.busGo = false

end Sys2Proof.Machine
end

