-- ==== Sys2Proof/Certificates/Slice0/Obligations.lean ====
section
/-! DEFINITION. The statements for the provers, made from the numbered rules of the spec. In each, `s` is any state
whatever, reached by a run or not, unless a hypothesis says otherwise. The record equations `t = { s with … }` are the
frames: every register not named after `with` keeps its value. The block has no memory (10_state.md R20), so no frame
speaks of bytes of memory. A state whose bstep holds the reserved code 3 is covered by
`ReservedCodesRecordFaultAndNothingElse`. -/

open Sys2Proof Sys2Proof.Machine

/-! ### Encodings -/

/-- 30_encoding.md R72, R73, R76, R79: the encoder and the decoder agree on every well-formed instruction, with every
operand at every value. That an event or a phase code is laid in one byte is the model's (log entry 3). -/
def Obligations.EncodedInstructionDecodesToItself : Prop :=
  ∀ (i : Instr) (rest : List Byte), i.WellFormed → decode (formatOf i) (encode i ++ rest) = .ok (i, rest)

/-- Every word the decoder takes is the word of a well-formed instruction of that format, and of no other. -/
def Obligations.DecodedWordIsTheInstructionsOwn : Prop :=
  ∀ (f : Format) (bytes rest : List Byte) (i : Instr), decode f bytes = .ok (i, rest) →
    i.WellFormed ∧ formatOf i = f ∧ bytes = encode i ++ rest

/-- 30_encoding.md R74: every 16-bit pattern is a read or a write, told apart by bit 15; no shorter frame exists. -/
def Obligations.FrameBit15TellsReadFromWrite : Prop :=
  (∀ (b0 b1 : Byte) (rest : List Byte), decode .frame (b0 :: b1 :: rest) =
    .ok (if 128 ≤ b0.toNat then .readReg (BitVec.ofNat 7 b0.toNat) b1 else .writeReg (BitVec.ofNat 7 b0.toNat) b1,
      rest)) ∧
    (∀ b0 : Byte, decode .frame [b0] = .error (.truncated .frame)) ∧ decode .frame [] = .error (.truncated .frame)

/-- 30_encoding.md R76: the event table. -/
def Obligations.EventVectorTable : Prop :=
  (∀ c t : Bool, decodeEvent (eventVec true c t) = .ok (.reset c t)) ∧
    decodeEvent (eventVec false false false) = .error .noEvent ∧ decodeEvent (eventVec false false true) = .ok .tick ∧
    decodeEvent (eventVec false true false) = .ok .cal ∧ decodeEvent (eventVec false true true) = .ok .tickCal

/-- 30_encoding.md R79: the phase table, with the four reserved codes. -/
def Obligations.PhaseCodeTable : Prop :=
  (List.range 16).map (fun n => decodePhase (BitVec.ofNat 4 n)) =
    [.idle, .initW1, .initW2, .rdXL, .rdXH, .rdYL, .rdYH, .rdZL, .rdZH, .map, .debounce, .calib,
      .reservedPhase 0xC, .reservedPhase 0xD, .reservedPhase 0xE, .reservedPhase 0xF]

/-- Words written out from the spec: the frames of 30_encoding.md R84, 40_serial_protocol.md R104, R106 and
95_test_vectors.md 2.1, and event and phase codes of R76 and R79. That decodeTableWord reads 3 bits as an event and 4
as a phase code is the model's (log entry 3). -/
def Obligations.SpecWordsDecode : Prop :=
  decodeTableWord 16 0b1011001000000000 = some (.readReg 0x32 0x00) ∧
    decodeTableWord 16 0b1111111100000000 = some (.readReg 0x7F 0x00) ∧
    decodeTableWord 16 0b0010110100001000 = some (.writeReg 0x2D 0x08) ∧
    decodeTableWord 16 0b0111111111111111 = some (.writeReg 0x7F 0xFF) ∧
    decodeTableWord 3 0b100 = some (.reset false false) ∧ decodeTableWord 3 0b011 = some .tickCal ∧
    decodeTableWord 4 0b0000 = some .idle ∧ decodeTableWord 4 0b1001 = some .map ∧
    decodeTableWord 4 0b1101 = some (.reservedPhase 0xD)

/-! ### Fetching and stepping -/

/-- 30_encoding.md R77, with R76 and R79: what is decoded in each state. The event vector is read in IDLE only, but
for the reset bit, which acts in every phase. -/
def Obligations.SequencerDecodesEventsOnlyInIdle : Prop :=
  ∀ s : State, s.fetch = .ok (
    if s.now.rst then .reset s.calPend s.tickPend
    else if s.phase = Phase.idle then
      (if s.calPend && s.tickPend then .tickCal else if s.calPend then .cal else if s.tickPend then .tick else .idle)
    else decodePhase s.phase)

/-- A step runs the instruction its word decodes to, and then latches what arrived and spends the step's inputs; it
does so in every state whose controller is not stuck, and in every state when reset arrives. That the other agents act
through a script is the model's (log entry 8). -/
def Obligations.StepRunsTheDecodedInstruction : Prop :=
  ∀ (s : State) (i : Instr), s.stuck = none ∨ s.now.rst = true →
    decode s.fetchFormat s.fetchBytes = .ok (i, []) → i.WellFormed →
      ∃ t, exec i s = .next t ∧ step s = .next
        (if s.now.rst then t.dropInput else (latchCal s (latchTick s t)).dropInput)

/-- A table word placed by withFetchWord is the instruction the next step runs; a frame is placed while no transaction
is in progress. The model's choice of where words are placed: log entry 10. -/
def Obligations.PlacedWordIsRunByTheNextStep : Prop :=
  ∀ (s : State) (nbits w : Nat) (i : Instr), decodeTableWord nbits w = some i → (nbits = 16 → s.bstep = BStep.idle) →
    step (s.withFetchWord nbits w) =
      afterExec (s.withFetchWord nbits w) (exec i (s.withFetchWord nbits w))

/-- 60_exceptions.md R252: a stuck controller has no further step. Until reset arrives only the script moves, and at
its end the step is the fault (log entry 7). -/
def Obligations.StuckControllerHasNoFurtherStep : Prop :=
  ∀ (s : State) (f : Fault), s.stuck = some f → s.now.rst = false →
    (s.script = [] → step s = .fault f) ∧ (s.script ≠ [] → step s = .next { s with script := s.script.tail })

/-! ### Bus transactions -/

/-- 40_serial_protocol.md R104: READ_REG's three steps and its two waits. The byte received with the address byte
reaches no register; the byte received in T2 is the result, which the history holds for a frame alone. That a wait is a
step which only ends the pulse, and the form of the history's entry, are the model's (log entries 13, 15, 16). -/
def Obligations.ReadRegRunsAddressThenDataThenDeselects : Prop :=
  ∀ (a : Addr) (d : Byte) (s : State),
    (s.bstep = BStep.idle → exec (.readReg a d) s = .next
      { s with csN := false, busTx := BitVec.ofNat 8 (128 + a.toNat), busGo := true, bstep := BStep.addr }) ∧
    (s.bstep = BStep.addr → s.now.busDone = true → exec (.readReg a d) s = .next
      { s with busTx := d, busGo := true, bstep := BStep.data }) ∧
    (s.bstep = BStep.data → s.now.busDone = true → exec (.readReg a d) s = .next
      { s with csN := true, busGo := false, bstep := BStep.idle
               history := .transaction a (BitVec.ofNat 8 (128 + a.toNat)) d s.now.busRx :: s.history }) ∧
    (s.bstep = BStep.addr ∨ s.bstep = BStep.data → s.now.busDone = false → exec (.readReg a d) s = .next
      { s with busGo := false })

/-- 40_serial_protocol.md R106: WRITE_REG's three steps and its two waits; both received bytes are discarded. The
model's: as for READ_REG (log entries 13, 15, 16). -/
def Obligations.WriteRegRunsAddressThenDataThenDeselects : Prop :=
  ∀ (a : Addr) (v : Byte) (s : State),
    (s.bstep = BStep.idle → exec (.writeReg a v) s = .next
      { s with csN := false, busTx := BitVec.ofNat 8 a.toNat, busGo := true, bstep := BStep.addr }) ∧
    (s.bstep = BStep.addr → s.now.busDone = true → exec (.writeReg a v) s = .next
      { s with busTx := v, busGo := true, bstep := BStep.data }) ∧
    (s.bstep = BStep.data → s.now.busDone = true → exec (.writeReg a v) s = .next
      { s with csN := true, busGo := false, bstep := BStep.idle
               history := .transaction a (BitVec.ofNat 8 a.toNat) v s.now.busRx :: s.history }) ∧
    (s.bstep = BStep.addr ∨ s.bstep = BStep.data → s.now.busDone = false → exec (.writeReg a v) s = .next
      { s with busGo := false })

/-- 40_serial_protocol.md R105, and the same for WRITE_REG (10_state.md R33): the frame of the two frames. -/
def Obligations.FramesWriteOnlyTransactionRegisters : Prop :=
  ∀ (i : Instr) (s t : State), formatOf i = .frame → s.bstep ≠ BStep.reserved → exec i s = .next t →
    t = { s with csN := t.csN, busTx := t.busTx, busGo := t.busGo, bstep := t.bstep, history := t.history }

/-- 30_encoding.md R75, 40_serial_protocol.md R110: until its transaction completes, a bus phase does what the frame
with its parameters does. -/
def Obligations.BusPhasesIssueTheirParametersFrame : Prop :=
  ∀ s : State, ¬ (s.bstep = BStep.data ∧ s.now.busDone = true) →
    exec .initW1 s = exec (.writeReg s.cfg.cfg1Addr s.cfg.cfg1Val) s ∧
    exec .initW2 s = exec (.writeReg s.cfg.cfg2Addr s.cfg.cfg2Val) s ∧
    exec .rdXL s = exec (.readReg s.cfg.addrXL s.cfg.readDummy) s ∧
    exec .rdXH s = exec (.readReg s.cfg.addrXH s.cfg.readDummy) s ∧
    exec .rdYL s = exec (.readReg s.cfg.addrYL s.cfg.readDummy) s ∧
    exec .rdYH s = exec (.readReg s.cfg.addrYH s.cfg.readDummy) s ∧
    exec .rdZL s = exec (.readReg s.cfg.addrZL s.cfg.readDummy) s ∧
    exec .rdZH s = exec (.readReg s.cfg.addrZH s.cfg.readDummy) s

/-- 46_scheduler.md R222: the startup writes complete, and advance the phase in the same step. The form of the history's
entry is the model's (log entry 15). -/
def Obligations.StartupWritesAdvanceWhenTheirFrameCompletes : Prop :=
  ∀ s : State, s.bstep = BStep.data → s.now.busDone = true →
    exec .initW1 s = .next
      { s with csN := true, busGo := false, bstep := BStep.idle, phase := Phase.initW2
               history := .transaction s.cfg.cfg1Addr (BitVec.ofNat 8 s.cfg.cfg1Addr.toNat) s.cfg.cfg1Val s.now.busRx
                 :: s.history } ∧
    exec .initW2 s = .next
      { s with csN := true, busGo := false, bstep := BStep.idle, phase := Phase.idle
               history := .transaction s.cfg.cfg2Addr (BitVec.ofNat 8 s.cfg.cfg2Addr.toNat) s.cfg.cfg2Val s.now.busRx
                 :: s.history }

/-- 41_acquisition.md R122: the low-byte phases complete: the received byte goes to lo_buf unchanged. The form of
the history's entry is the model's (log entry 15). -/
def Obligations.LowBytePhasesKeepTheReceivedByte : Prop :=
  ∀ s : State, s.bstep = BStep.data → s.now.busDone = true →
    (∃ t, exec .rdXL s = .next t ∧ t.loBuf = s.now.busRx ∧ t.phase = Phase.rdXH ∧ t.csN = true ∧
      t.bstep = BStep.idle ∧ t.busGo = false ∧
      t.history = .transaction s.cfg.addrXL (addressByte true s.cfg.addrXL) s.cfg.readDummy s.now.busRx :: s.history) ∧
    (∃ t, exec .rdYL s = .next t ∧ t.loBuf = s.now.busRx ∧ t.phase = Phase.rdYH ∧ t.csN = true ∧
      t.bstep = BStep.idle ∧ t.busGo = false ∧
      t.history = .transaction s.cfg.addrYL (addressByte true s.cfg.addrYL) s.cfg.readDummy s.now.busRx :: s.history) ∧
    (∃ t, exec .rdZL s = .next t ∧ t.loBuf = s.now.busRx ∧ t.phase = Phase.rdZH ∧ t.csN = true ∧
      t.bstep = BStep.idle ∧ t.busGo = false ∧
      t.history = .transaction s.cfg.addrZL (addressByte true s.cfg.addrZL) s.cfg.readDummy s.now.busRx :: s.history)

/-- 41_acquisition.md R123: the high-byte phases complete: the sample is the received byte over lo_buf. The form
of the history's entry is the model's (log entry 15). -/
def Obligations.HighBytePhasesAssembleTheSample : Prop :=
  ∀ s : State, s.bstep = BStep.data → s.now.busDone = true →
    (∃ t, exec .rdXH s = .next t ∧ t.sx.toNat = 256 * s.now.busRx.toNat + s.loBuf.toNat ∧ t.phase = Phase.rdYL ∧
      t.csN = true ∧ t.bstep = BStep.idle ∧ t.busGo = false ∧
      t.history = .transaction s.cfg.addrXH (addressByte true s.cfg.addrXH) s.cfg.readDummy s.now.busRx :: s.history) ∧
    (∃ t, exec .rdYH s = .next t ∧ t.sy.toNat = 256 * s.now.busRx.toNat + s.loBuf.toNat ∧ t.phase = Phase.rdZL ∧
      t.csN = true ∧ t.bstep = BStep.idle ∧ t.busGo = false ∧
      t.history = .transaction s.cfg.addrYH (addressByte true s.cfg.addrYH) s.cfg.readDummy s.now.busRx :: s.history) ∧
    (∃ t, exec .rdZH s = .next t ∧ t.sz.toNat = 256 * s.now.busRx.toNat + s.loBuf.toNat ∧ t.phase = Phase.map ∧
      t.csN = true ∧ t.bstep = BStep.idle ∧ t.busGo = false ∧
      t.history = .transaction s.cfg.addrZH (addressByte true s.cfg.addrZH) s.cfg.readDummy s.now.busRx :: s.history)

/-- 10_state.md R33, rows INIT, RD_xL and RD_xH: the frames of the bus phases, in every step of their transactions. -/
def Obligations.BusPhasesLeaveEveryOtherRegisterAlone : Prop :=
  ∀ s t : State, s.bstep ≠ BStep.reserved →
    (exec .initW1 s = .next t ∨ exec .initW2 s = .next t →
      t = { s with csN := t.csN, busTx := t.busTx, busGo := t.busGo, bstep := t.bstep, history := t.history
                   phase := t.phase }) ∧
    (exec .rdXL s = .next t ∨ exec .rdYL s = .next t ∨ exec .rdZL s = .next t →
      t = { s with csN := t.csN, busTx := t.busTx, busGo := t.busGo, bstep := t.bstep, history := t.history
                   phase := t.phase, loBuf := t.loBuf }) ∧
    (exec .rdXH s = .next t →
      t = { s with csN := t.csN, busTx := t.busTx, busGo := t.busGo, bstep := t.bstep, history := t.history
                   phase := t.phase, sx := t.sx }) ∧
    (exec .rdYH s = .next t →
      t = { s with csN := t.csN, busTx := t.busTx, busGo := t.busGo, bstep := t.bstep, history := t.history
                   phase := t.phase, sy := t.sy }) ∧
    (exec .rdZH s = .next t →
      t = { s with csN := t.csN, busTx := t.busTx, busGo := t.busGo, bstep := t.bstep, history := t.history
                   phase := t.phase, sz := t.sz })

/-- 40_serial_protocol.md R104, R106 (step T1): the byte received with the address byte is discarded. Two states that
differ only in the byte that port bus_rx carries while the address byte is exchanged go to the same registers, under
every instruction. -/
def Obligations.AddressPhaseByteReachesNoRegister : Prop :=
  ∀ (i : Instr) (s : State) (e : Inputs) (rest : List Inputs) (junk : Byte),
    s.script = e :: rest → s.bstep = BStep.addr →
      ∃ t, exec i s = .next t ∧
        exec i { s with script := { e with busRx := junk } :: rest } =
          .next { t with script := { e with busRx := junk } :: rest }

/-- 40_serial_protocol.md R103, R101: while the bus agent completes nothing, the controller holds in its transaction for
any number of steps: chip-select keeps its level, no request is taken and no output changes. A TICK in that time would
be an overrun or set INIT's pending tick, and reset would end the hold: neither arrives. That a hold is a step is the
model's (log entry 13). -/
def Obligations.BusHangHoldsForAnyNumberOfSteps : Prop :=
  ∀ (n : Nat) (s : State), s.WaitsForBus →
    (∀ e ∈ s.script.take n, e.busDone = false ∧ e.rst = false ∧ e.tick = false) →
      ∃ t, steps n s = .next t ∧ t.WaitsForBus ∧ t.phase = s.phase ∧ t.bstep = s.bstep ∧ t.csN = s.csN ∧
        t.outX = s.outX ∧ t.outY = s.outY ∧ t.ind = s.ind ∧ t.tickPend = s.tickPend ∧
        (s.calPend = true → t.calPend = true) ∧ t.history = s.history

/-! ### Samples, orientation, mapping -/

/-- 41_acquisition.md R124: the sample's bits and its signed value. -/
def Obligations.AssembledSampleIsHighByteOverLowByte : Prop :=
  ∀ lo hi : Byte,
    (assemble lo hi).toInt = 256 * (hi.toNat : Int) + lo.toNat - 65536 * (if hi.getLsbD 7 then 1 else 0) ∧
      (assemble lo hi).extractLsb' 8 8 = hi ∧ (assemble lo hi).extractLsb' 0 8 = lo

/-- 42_orientation_selector.md R140: the comparator is the magnitude test over the integers, for every sample. -/
def Obligations.MagnitudeTestIsExactOnEverySample : Prop :=
  ∀ s : Half, magGT s = true ↔ |s.toInt| > 170

/-- 42_orientation_selector.md R143: first match wins, in the order z, x, y, for every sample triple. -/
def Obligations.OrientationIsFirstMatchOfZThenXThenY : Prop :=
  ∀ sx sy sz : Half,
    (orientOf sx sy sz = .flat ↔ |sz.toInt| > 170) ∧
    (orientOf sx sy sz = .rolled ↔ |sz.toInt| ≤ 170 ∧ |sx.toInt| > 170) ∧
    (orientOf sx sy sz = .pitched ↔ |sz.toInt| ≤ 170 ∧ |sx.toInt| ≤ 170 ∧ |sy.toInt| > 170) ∧
    (orientOf sx sy sz = .neutral ↔ |sz.toInt| ≤ 170 ∧ |sx.toInt| ≤ 170 ∧ |sy.toInt| ≤ 170)

/-- 43_tilt_mapper.md R166, R165 and the four properties of 95_test_vectors.md E3: MAP completes in every orientation,
with the outputs of exact integer arithmetic taken mod 65536, and no offset in the neutral outcome. -/
def Obligations.MapWritesTheSelectedPairScaledAndOffset : Prop :=
  ∀ s : State, s.bstep ≠ BStep.reserved →
    ∃ t, exec .map s = .next t ∧
      t = { s with outX := t.outX, outY := t.outY, phase := Phase.debounce, history := t.history } ∧
      (if |s.sz.toInt| > 170 then
        (t.outX.toNat : Int) = (s.sx.toInt * 200 + 32768 - s.offX.toInt) % 65536 ∧
          (t.outY.toNat : Int) = (-s.sy.toInt * 200 + 32768 - s.offY.toInt) % 65536
      else if |s.sx.toInt| > 170 then
        (t.outX.toNat : Int) = (s.sz.toInt * 200 + 32768 - s.offX.toInt) % 65536 ∧
          (t.outY.toNat : Int) = (-s.sy.toInt * 200 + 32768 - s.offY.toInt) % 65536
      else if |s.sy.toInt| > 170 then
        (t.outX.toNat : Int) = (s.sx.toInt * 200 + 32768 - s.offX.toInt) % 65536 ∧
          (t.outY.toNat : Int) = (-s.sz.toInt * 200 + 32768 - s.offY.toInt) % 65536
      else t.outX.toNat = 32768 ∧ t.outY.toNat = 32768)

/-- 43_tilt_mapper.md R162, R163, R167: a lane computed exactly and then wrapped is the same lane computed in wrapping
16-bit arithmetic on the bit patterns. -/
def Obligations.MapperLaneIsWrappingSixteenBitArithmetic : Prop :=
  ∀ raw off : Half, mapLane raw off = raw * 0x00C8 + 0x8000 - off

/-! ### The debouncer -/

/-- 45_level_debouncer.md R201: the band is 0x7001 to 0x8FFF on the unsigned output, and level is both outputs in it. -/
def Obligations.BandIsStrictOnBothSides : Prop :=
  (∀ o : Half, inBand o = true ↔ 0x7001 ≤ o.toNat ∧ o.toNat ≤ 0x8FFF) ∧
    ∀ s : State, s.level = true ↔ inBand s.outX = true ∧ inBand s.outY = true

/-- 45_level_debouncer.md R203: DEBOUNCE completes; the counter is decremented and then tested for zero, and a broken
condition reloads it and turns the indicator OFF at once. -/
def Obligations.DebounceCountsDownReloadsAndDrivesTheIndicator : Prop :=
  ∀ s : State, s.bstep ≠ BStep.reserved →
    ∃ t, exec .debounce s = .next t ∧
      t = { s with hcnt := t.hcnt, ind := t.ind, phase := Phase.idle, history := t.history } ∧
      (if 28672 < s.outX.toNat ∧ s.outX.toNat < 36864 ∧ 28672 < s.outY.toNat ∧ s.outY.toNat < 36864 then
        (if s.hcnt = 1 then t.ind = true ∧ t.hcnt = 100 else t.ind = s.ind ∧ t.hcnt = s.hcnt - 1)
      else t.ind = false ∧ t.hcnt = 100)

/-- 45_level_debouncer.md R206: a re-confirmed indicator stays ON: while level holds, an indicator that is ON is never
turned off, and 100 level cycles from a full counter come back to a full counter. -/
def Obligations.LevelIndicatorStaysOnWhileLevelHolds : Prop :=
  ∀ (s : State) (k : Nat), s.bstep ≠ BStep.reserved → s.level = true → s.hcnt = 100 → s.ind = true → k ≤ 100 →
    ∃ t, execAll (List.replicate k .debounce) s = .next t ∧ t.ind = true ∧
      t.hcnt.toNat = (if k = 100 then 100 else 100 - k)

/-- 45_level_debouncer.md R208: a NEUTRAL cycle counts as level, whatever the offsets: MAP and DEBOUNCE decrement the
counter or fire. -/
def Obligations.NeutralCycleCountsAsLevel : Prop :=
  ∀ s : State, s.bstep ≠ BStep.reserved → orientOf s.sx s.sy s.sz = .neutral →
    ∃ t, execAll [.map, .debounce] s = .next t ∧
      (if s.hcnt = 1 then t.ind = true ∧ t.hcnt = 100 else t.ind = s.ind ∧ t.hcnt = s.hcnt - 1)

/-- 45_level_debouncer.md R209, 10_state.md R21: ind drives the led line at LED_ACTIVE_LEVEL. -/
def Obligations.LedLineFollowsIndicatorAndPolarity : Prop :=
  ∀ s : State, s.led = true ↔ (s.cfg.ledActiveLevel = .high ↔ s.ind = true)

/-! ### Calibration -/

/-- 44_calibration.md R182: CALIB completes, with each offset moved by its output's distance from the centre. -/
def Obligations.CalibrationAddsTheOutputsDistanceFromCentre : Prop :=
  ∀ s : State, s.bstep ≠ BStep.reserved →
    exec .calib s = .next
      { s with offX := s.outX - 0x8000 + s.offX, offY := s.outY - 0x8000 + s.offY, phase := Phase.idle }

/-- 43_tilt_mapper.md R170, 44_calibration.md R183 and 10_state.md R33, rows MAP, DEBOUNCE and CALIB: what each one-step
phase leaves alone. -/
def Obligations.OneStepPhasesWriteOnlyTheirOwnRegisters : Prop :=
  ∀ s t : State, s.bstep ≠ BStep.reserved →
    (exec .map s = .next t → t = { s with outX := t.outX, outY := t.outY, phase := t.phase, history := t.history }) ∧
    (exec .debounce s = .next t → t = { s with hcnt := t.hcnt, ind := t.ind, phase := t.phase, history := t.history }) ∧
    (exec .calib s = .next t → t = { s with offX := t.offX, offY := t.offY, phase := t.phase })

/-- 44_calibration.md R184 item 1: after a cycle, a calibration and a cycle of the same samples the outputs are at the
centre, in every orientation. -/
def Obligations.CalibrationRezeroesTheSameReading : Prop :=
  ∀ s : State, s.bstep ≠ BStep.reserved →
    ∃ t, execAll [.map, .debounce, .calib, .map] s = .next t ∧ t.outX.toNat = 32768 ∧ t.outY.toNat = 32768

/-- 44_calibration.md R184 items 2 and 3: k calibrations with no sampling between them add k times the distance from
the centre, so none if the output is the centre. -/
def Obligations.RepeatedCalibrationsAccumulate : Prop :=
  ∀ (k : Nat) (s : State), s.bstep ≠ BStep.reserved →
    ∃ t, execAll (List.replicate k .calib) s = .next t ∧
      (t.offX.toNat : Int) = ((s.offX.toNat : Int) + k * ((s.outX.toNat : Int) - 32768)) % 65536 ∧
      (t.offY.toNat : Int) = ((s.offY.toNat : Int) + k * ((s.outY.toNat : Int) - 32768)) % 65536 ∧
      t.outX = s.outX ∧ t.outY = s.outY

/-! ### Events -/

/-- 60_exceptions.md R245: a pending tick and a pending calibration are taken in IDLE. The form of the history's entry is
the model's (log entry 15). -/
def Obligations.AcceptanceStartsTheRequestedOperation : Prop :=
  ∀ s : State, s.bstep ≠ BStep.reserved → s.phase = Phase.idle →
    exec .tick s = .next { s with tickPend := false, phase := Phase.rdXL, history := .tickTaken :: s.history } ∧
    exec .cal s = .next { s with calPend := false, phase := Phase.calib, history := .calTaken :: s.history }

/-- 60_exceptions.md R245: phase IDLE takes what is pending, and with nothing pending changes nothing. -/
def Obligations.IdlePhaseTakesWhatIsPending : Prop :=
  ∀ s : State, s.bstep ≠ BStep.reserved → s.phase = Phase.idle →
    (s.calPend = false → s.tickPend = false → exec .idle s = .next s) ∧
    (s.calPend = false → s.tickPend = true → exec .idle s = exec .tick s) ∧
    (s.calPend = true → s.tickPend = false → exec .idle s = exec .cal s) ∧
    (s.calPend = true → s.tickPend = true → exec .idle s = exec .tickCal s)

/-- 60_exceptions.md R246: with both pending one is taken and the other stays pending, in the configured order; under
ANY both orders are admitted. That the script names the order is the model's (log entry 9). -/
def Obligations.SimultaneousRequestsAreTakenInArbitrationOrder : Prop :=
  ∀ s : State, s.bstep ≠ BStep.reserved → s.phase = Phase.idle → s.tickPend = true → s.calPend = true →
    ∃ t, exec .tickCal s = .next t ∧
      ((t.phase = Phase.rdXL ∧ t.tickPend = false ∧ t.calPend = true) ∨
        (t.phase = Phase.calib ∧ t.calPend = false ∧ t.tickPend = true)) ∧
      (s.cfg.arbOrder = .tickFirst → t.phase = Phase.rdXL) ∧
      (s.cfg.arbOrder = .calFirst → t.phase = Phase.calib) ∧
      (s.cfg.arbOrder = .any → ∀ p, p = Phase.rdXL ∨ p = Phase.calib →
        ∃ e u, exec .tickCal { s with script := e :: s.script } = .next u ∧ u.phase = p)

/-- 60_exceptions.md R245, R246 and 30_encoding.md R77: what the event instructions leave alone; outside IDLE they
leave everything alone, since a request waits there (DEDUCED, log entry 19). -/
def Obligations.EventsWriteOnlyFlagsAndPhase : Prop :=
  ∀ (i : Instr) (s t : State), i = .tick ∨ i = .cal ∨ i = .tickCal ∨ i = .idle → s.bstep ≠ BStep.reserved →
    exec i s = .next t →
      t = { s with tickPend := t.tickPend, calPend := t.calPend, phase := t.phase, history := t.history
                   draws := t.draws } ∧
      (s.phase ≠ Phase.idle → t = s)

/-- 60_exceptions.md R241: a TICK is latched, unless a cycle is in progress or a tick is pending: then it is F1, with
the phase at arrival and tick_pend, and the controller is stuck (R252; log entries 7 and 12). -/
def Obligations.TickIsLatchedOrOverruns : Prop :=
  ∀ s : State, s.stuck = none → s.now.rst = false → s.now.tick = true →
    ∃ t, step s = .next t ∧
      (if (3 ≤ s.phase.toNat ∧ s.phase.toNat ≤ 10) ∨ s.tickPend = true then
        .tickOverrun s.phase s.tickPend ∈ t.faults ∧ t.stuck = some (.tickOverrun s.phase s.tickPend)
      else t.tickPend = true ∧ ∀ p b, Fault.tickOverrun p b ∈ t.faults → Fault.tickOverrun p b ∈ s.faults)

/-- 60_exceptions.md R242, R245: cal_in is sampled at every step, in every phase; an edge of kind CAL_EDGE leaves
cal_pend set, merged with a pending request, and also in the step that takes one; any other step sets no request, and
clears one only by taking it in IDLE. -/
def Obligations.CalibrationEdgeIsLatchedInEveryPhase : Prop :=
  ∀ s : State, s.stuck = none → s.now.rst = false →
    ∃ t, step s = .next t ∧ t.calPrev = s.now.calIn ∧
      (if (s.cfg.calEdge = .rising ∧ s.calPrev = false ∧ s.now.calIn = true) ∨
          (s.cfg.calEdge = .falling ∧ s.calPrev = true ∧ s.now.calIn = false) then t.calPend = true
      else (t.calPend = true → s.calPend = true) ∧ (s.phase ≠ Phase.idle → t.calPend = s.calPend))

/-- 46_scheduler.md R228, 60_exceptions.md R245: in IDLE with nothing pending and a quiet environment there is no step:
the state is its own next state (log entries 8 and 13). -/
def Obligations.IdleWaitChangesNothing : Prop :=
  ∀ s : State, s.WaitsInIdle → s.script = [] → step s = .next s

/-! ### Reset -/

/-- 70_reset_and_hazards.md R273, R271: RESET completes from every state, whatever its two ignored bits, with every
register the spec gives a reset value at that value; it keeps the fault set. -/
def Obligations.ResetPutsEveryRegisterAtItsResetValue : Prop :=
  ∀ (c k : Bool) (s : State), ∃ t, exec (.reset c k) s = .next t ∧
    t.offX = 0 ∧ t.offY = 0 ∧ t.hcnt = 100 ∧ t.ind = false ∧ t.outX = s.cfg.outResetX ∧ t.outY = s.cfg.outResetY ∧
    t.tickPend = false ∧ t.calPend = false ∧ t.calPrev = s.now.calIn ∧ t.phase = Phase.initW1 ∧
    t.bstep = BStep.idle ∧ t.csN = true ∧ t.busGo = false ∧ t.faults = s.faults ∧
    t.led = decide (s.cfg.ledActiveLevel = .low)

/-- What RESET leaves: the configuration, the fault set (60_exceptions.md R251, 70_reset_and_hazards.md R271) and the
script. The history (10_state.md R32) keeps its entries, and grows by at most the three changes R32 records, of out_x,
out_y and ind: that reset takes no entry out, and the history's form, are a DESIGN CHOICE (log entry 15). The registers
written are all the block's (R270). Lifting the stuck mark is DEDUCED (log entry 7). -/
def Obligations.ResetKeepsFaultsConfigurationAndScript : Prop :=
  ∀ (c k : Bool) (s t : State), exec (.reset c k) s = .next t →
    t.cfg = s.cfg ∧ t.faults = s.faults ∧ t.script = s.script ∧ t.stuck = none ∧
      ∃ h, t.history = h ++ s.history ∧ h.length ≤ 3

/-- 60_exceptions.md R247, R243, 70_reset_and_hazards.md R270: a step with rst = 1 is reset, whatever was in progress,
also for a stuck controller (DEDUCED, log entry 7), and no request that arrives in it is latched. -/
def Obligations.ResetComesFirstInEveryState : Prop :=
  ∀ s : State, s.now.rst = true → ∃ t, step s = .next t ∧ t.phase = Phase.initW1 ∧ t.tickPend = false ∧
    t.calPend = false ∧ t.bstep = BStep.idle ∧ t.csN = true ∧ t.busGo = false ∧ t.stuck = none ∧
    t.faults = s.faults ∧ t.script = s.script.tail

/-- 70_reset_and_hazards.md R273: the values the spec gives, in the state right after reset; and the model default of
ARB_ORDER (00_scope.md R9, 60_exceptions.md R246). -/
def Obligations.ResetStateHoldsTheSpecifiedValues : Prop :=
  State.reset.offX = 0 ∧ State.reset.offY = 0 ∧ State.reset.hcnt = 100 ∧ State.reset.ind = false ∧
    State.reset.outX = State.reset.cfg.outResetX ∧ State.reset.outY = State.reset.cfg.outResetY ∧
    State.reset.tickPend = false ∧ State.reset.calPend = false ∧ State.reset.phase = 0x1 ∧
    State.reset.bstep = 0 ∧ State.reset.csN = true ∧ State.reset.busGo = false ∧ State.reset.faults = [] ∧
    State.reset.cfg.arbOrder = .any

/-! ### Reserved codes -/

/-- 30_encoding.md R80: a reserved phase code and bstep code 3 record F2 with the code, and the controller is stuck;
nothing else changes. That every instruction but RESET checks bstep is DEDUCED (log entry 20). -/
def Obligations.ReservedCodesRecordFaultAndNothingElse : Prop :=
  (∀ (c : PhaseCode) (s : State), s.bstep ≠ BStep.reserved → ∃ t, exec (.reservedPhase c) s = .next t ∧
    .reservedPhase c ∈ t.faults ∧ t.stuck = some (.reservedPhase c) ∧
    t = { s with faults := t.faults, stuck := t.stuck }) ∧
  (∀ (i : Instr) (s : State), s.bstep = BStep.reserved → (∀ c k, i ≠ .reset c k) → ∃ t, exec i s = .next t ∧
    .reservedBStep 3 ∈ t.faults ∧ t.stuck = some (.reservedBStep 3) ∧
    t = { s with faults := t.faults, stuck := t.stuck } ∧ (∀ c, i = .reservedPhase c → .reservedPhase c ∈ t.faults))

/-! ### The whole machine -/

/-- 45_level_debouncer.md R204, 46_scheduler.md R226, 40_serial_protocol.md R107, R110: every step keeps the legal
states legal. -/
def Obligations.EveryStepKeepsTheStateLegal : Prop :=
  ∀ s t : State, s.Legal → step s = .next t → t.Legal

/-- The state after reset meets both invariants: it is legal, and its indicator is OFF. -/
def Obligations.ResetStateMeetsTheInvariants : Prop := State.reset.Legal ∧ State.reset.IndicatorTruthful

/-- The indicator is ON only while the outputs on the ports are in the band, but for the step between MAP and DEBOUNCE
(45_level_debouncer.md R203, R207; 43_tilt_mapper.md R169): kept by every step, from any state. -/
def Obligations.IndicatorIsOnOnlyWhileOutputsAreLevel : Prop :=
  ∀ s t : State, s.IndicatorTruthful → step s = .next t → t.IndicatorTruthful

/-- 46_scheduler.md R223: the complete table of phase transitions: a step that changes the phase is one of its rows,
with the row's condition. -/
def Obligations.PhaseChangesOnlyByTheTransitionTable : Prop :=
  ∀ s t : State, step s = .next t → t.phase ≠ s.phase →
    (s.now.rst = true ∧ t.phase = Phase.initW1) ∨
    (s.now.rst = false ∧ s.stuck = none ∧
      ((s.phase = Phase.idle ∧ s.tickPend = true ∧ t.phase = Phase.rdXL) ∨
       (s.phase = Phase.idle ∧ s.calPend = true ∧ t.phase = Phase.calib) ∨
       (s.phase = Phase.map ∧ t.phase = Phase.debounce) ∨
       (s.phase = Phase.debounce ∧ t.phase = Phase.idle) ∨
       (s.phase = Phase.calib ∧ t.phase = Phase.idle) ∨
       (s.bstep = BStep.data ∧ s.now.busDone = true ∧
         (s.phase, t.phase) ∈ [(Phase.initW1, Phase.initW2), (Phase.initW2, Phase.idle), (Phase.rdXL, Phase.rdXH),
           (Phase.rdXH, Phase.rdYL), (Phase.rdYL, Phase.rdYH), (Phase.rdYH, Phase.rdZL), (Phase.rdZL, Phase.rdZH),
           (Phase.rdZH, Phase.map)])))

/-- 10_state.md R33 (the access matrix), 40_serial_protocol.md R110, 43_tilt_mapper.md R169, 44_calibration.md R182,
45_level_debouncer.md R209: a register changes only in a step of a phase that may write it, or in reset. -/
def Obligations.OnlyTheOwningPhaseWritesARegister : Prop :=
  ∀ s t : State, step s = .next t → s.now.rst = false →
    (t.sx ≠ s.sx → s.phase = Phase.rdXH) ∧ (t.sy ≠ s.sy → s.phase = Phase.rdYH) ∧
    (t.sz ≠ s.sz → s.phase = Phase.rdZH) ∧
    (t.loBuf ≠ s.loBuf → s.phase = Phase.rdXL ∨ s.phase = Phase.rdYL ∨ s.phase = Phase.rdZL) ∧
    (t.outX ≠ s.outX ∨ t.outY ≠ s.outY → s.phase = Phase.map) ∧
    (t.offX ≠ s.offX ∨ t.offY ≠ s.offY → s.phase = Phase.calib) ∧
    (t.hcnt ≠ s.hcnt ∨ t.ind ≠ s.ind → s.phase = Phase.debounce) ∧
    (t.csN ≠ s.csN ∨ t.busTx ≠ s.busTx ∨ t.busGo ≠ s.busGo ∨ t.bstep ≠ s.bstep → busPhase s.phase = true)

/-- 60_exceptions.md R251, 70_reset_and_hazards.md R271: no step, not even reset, takes a fault out of the fault set; and
no step changes the configuration (00_scope.md R9). -/
def Obligations.FaultSetOnlyGrowsAndConfigurationIsFixed : Prop :=
  ∀ s t : State, step s = .next t → (∀ f ∈ s.faults, f ∈ t.faults) ∧ t.cfg = s.cfg

/-- 60_exceptions.md R251, row F2 ("unreachable from reset"): from a legal state no step records ReservedState. -/
def Obligations.LegalStatesNeverRecordReservedState : Prop :=
  ∀ s t : State, s.Legal → step s = .next t →
    (∀ c, Fault.reservedPhase c ∈ t.faults → Fault.reservedPhase c ∈ s.faults) ∧
    (∀ c, Fault.reservedBStep c ∈ t.faults → Fault.reservedBStep c ∈ s.faults)

/-- 10_state.md R32: no rule of the block reads the history: with any other history a step answers the same but for
the history. -/
def Obligations.HistoryInfluencesNothing : Prop :=
  ∀ (s t : State) (h : List HistEvent), step s = .next t →
    ∃ h', step { s with history := h } = .next { t with history := h' }

/-- 10_state.md R32: what MAP, DEBOUNCE and RESET record: the value out_x, out_y or ind changed to, when it changed, and
nothing else. The form of the history is the model's (log entry 15). -/
def Obligations.HistoryRecordsEveryChangeOfOutputsAndIndicator : Prop :=
  ∀ (i : Instr) (s t : State), i = .map ∨ i = .debounce ∨ (∃ c k, i = .reset c k) →
    exec i s = .next t → ∃ new, t.history = new ++ s.history ∧
      (∀ v, .outX v ∈ new ↔ v = t.outX ∧ t.outX ≠ s.outX) ∧ (∀ v, .outY v ∈ new ↔ v = t.outY ∧ t.outY ≠ s.outY) ∧
      (∀ v, .ind v ∈ new ↔ v = t.ind ∧ t.ind ≠ s.ind) ∧
      (∀ e ∈ new, e = .outX t.outX ∨ e = .outY t.outY ∨ e = .ind t.ind)

/-! ### Stretches of a run -/

/-- 46_scheduler.md R222, R227, 70_reset_and_hazards.md R272: INIT takes six steps when the bus completes at once: the two
configuration frames, in order, and then IDLE. The form of the history is the model's (log entry 15). -/
def Obligations.StartupSendsTheTwoConfigurationFrames : Prop :=
  ∀ (s : State) (junk b : Byte) (rest : List Inputs), s.stuck = none → s.phase = Phase.initW1 → s.bstep = BStep.idle →
    s.script = transactionScript s.calPrev junk b ++ transactionScript s.calPrev junk b ++ rest →
      ∃ t, steps 6 s = .next t ∧ t.phase = Phase.idle ∧ t.bstep = BStep.idle ∧ t.csN = true ∧ t.script = rest ∧
        t.stuck = none ∧ t.tickPend = s.tickPend ∧ t.calPend = s.calPend ∧
        t.history = .transaction s.cfg.cfg2Addr (addressByte false s.cfg.cfg2Addr) s.cfg.cfg2Val b ::
          .transaction s.cfg.cfg1Addr (addressByte false s.cfg.cfg1Addr) s.cfg.cfg1Val b :: s.history

/-- 46_scheduler.md R221, R227, 41_acquisition.md R121: one whole sampling cycle from rest, with a bus that completes at
once: the TICK is latched and taken, six frames read the three samples, the outputs are the mapper's and the counter
and the indicator the debouncer's, and the block is at rest again with no fault. The script is the model's (log entry 8),
and the step in which the TICK arrives is one more than R227 counts. -/
def Obligations.SamplingCycleRunsFromRestToRest : Prop :=
  ∀ (s : State) (junk : Byte) (r : Reading) (rest : List Inputs), s.AtRest →
    s.script = cycleScript s.calPrev junk r ++ rest →
      ∃ t, steps 22 s = .next t ∧ t.AtRest ∧ t.script = rest ∧ t.calPrev = s.calPrev ∧ t.faults = s.faults ∧
        t.cfg = s.cfg ∧ t.offX = s.offX ∧ t.offY = s.offY ∧
        t.sx = assemble r.xl r.xh ∧ t.sy = assemble r.yl r.yh ∧ t.sz = assemble r.zl r.zh ∧
        t.outX = (r.outputs s.offX s.offY).1 ∧ t.outY = (r.outputs s.offX s.offY).2 ∧
        (if levelOf t.outX t.outY then
          (if s.hcnt = 1 then t.ind = true ∧ t.hcnt = 100 else t.ind = s.ind ∧ t.hcnt = s.hcnt - 1)
        else t.ind = false ∧ t.hcnt = 100)

/-- 30_encoding.md R75, R84, 41_acquisition.md R121: a TICK causes six read frames on the bus, in the order of its line,
and each brings the byte of the reading. The form of the history is the model's (log entry 15). -/
def Obligations.CycleSendsItsSixFramesInOrder : Prop :=
  ∀ (s : State) (junk : Byte) (r : Reading) (rest : List Inputs), s.AtRest →
    s.script = cycleScript s.calPrev junk r ++ rest →
      ∃ t new, steps 22 s = .next t ∧ t.history = new ++ s.history ∧
        new.reverse.filterMap HistEvent.frame = ((Line.tick r).frames s.cfg).zip r.bytes

/-- 45_level_debouncer.md R205, on the whole machine: from a full counter and an indicator that is OFF, k level sampling
cycles leave the counter at 100 - k and the indicator OFF for k in 1..99, and turn the indicator ON at the hundredth and
not before. That the environment is a script is the model's (log entry 8). -/
def Obligations.IndicatorTurnsOnAtTheHundredthLevelCycle : Prop :=
  ∀ (rs : List Reading) (s : State) (junk : Byte) (rest : List Inputs), s.AtRest → s.hcnt = 100 → s.ind = false →
    rs.length ≤ 100 →
    (∀ r ∈ rs, levelOf (r.outputs s.offX s.offY).1 (r.outputs s.offX s.offY).2 = true) →
    s.script = (rs.map (cycleScript s.calPrev junk)).flatten ++ rest →
      ∃ t, steps (22 * rs.length) s = .next t ∧ t.AtRest ∧
        (if rs.length = 100 then t.ind = true ∧ t.hcnt = 100
        else t.ind = false ∧ t.hcnt.toNat = 100 - rs.length)

/-! ### Configurations -/

/-- 00_scope.md R9, 20_memory.md R55, 60_exceptions.md R251 (last sentence): a configuration is accepted exactly when every
parameter is in its domain, and then unchanged. That TICK_PERIOD is a positive natural number is the model's reading (log
entry 23). -/
def Obligations.ConfigurationOutsideItsDomainIsRefused : Prop :=
  ∀ r : Config.RawParams,
    ((∃ p, configure r = .ok p) ↔
      (r.addrXL ≤ 0x7F ∧ r.addrXH ≤ 0x7F ∧ r.addrYL ≤ 0x7F ∧ r.addrYH ≤ 0x7F ∧ r.addrZL ≤ 0x7F ∧ r.addrZH ≤ 0x7F ∧
        r.cfg1Addr ≤ 0x7F ∧ r.cfg2Addr ≤ 0x7F ∧ r.cfg1Val ≤ 0xFF ∧ r.cfg2Val ≤ 0xFF ∧ r.readDummy ≤ 0xFF ∧
        r.outResetX ≤ 0xFFFF ∧ r.outResetY ≤ 0xFFFF ∧ 0 < r.tickPeriod ∧ r.pwmPeriod ≤ 0xFFFF)) ∧
    ∀ p, configure r = .ok p →
      [p.addrXL.toNat, p.addrXH.toNat, p.addrYL.toNat, p.addrYH.toNat, p.addrZL.toNat, p.addrZH.toNat,
        p.cfg1Addr.toNat, p.cfg1Val.toNat, p.cfg2Addr.toNat, p.cfg2Val.toNat, p.readDummy.toNat, p.outResetX.toNat,
        p.outResetY.toNat, (p.electrical.tickPeriod : Nat), p.electrical.pwmPeriod.toNat] =
      [r.addrXL, r.addrXH, r.addrYL, r.addrYH, r.addrZL, r.addrZH, r.cfg1Addr, r.cfg1Val, r.cfg2Addr, r.cfg2Val,
        r.readDummy, r.outResetX, r.outResetY, r.tickPeriod, r.pwmPeriod] ∧
      p.calEdge = r.calEdge ∧ p.arbOrder = r.arbOrder ∧ p.ledActiveLevel = r.ledActiveLevel ∧
      p.overrunPolicy = r.overrunPolicy ∧ p.electrical.clkPolarity = r.clkPolarity ∧
      p.electrical.clkPhase = r.clkPhase ∧ p.electrical.bitOrder = r.bitOrder ∧ p.electrical.busClk = r.busClk ∧
      p.electrical.csSetup = r.csSetup ∧ p.electrical.csHold = r.csHold ∧ p.electrical.csIdleMin = r.csIdleMin
end

