-- ==== Sys2Proof/Laws/State.lean ====
section
/-! SUPPORT. One lemma for each field under each named update of the state, so that no proof unfolds an update. -/

namespace Sys2Proof.Machine

/-! ### State.raise: recording a fault -/

@[simp] theorem State.raise_cfg (s : State) (f : Fault) : (s.raise f).cfg = s.cfg := rfl
@[simp] theorem State.raise_sx (s : State) (f : Fault) : (s.raise f).sx = s.sx := rfl
@[simp] theorem State.raise_sy (s : State) (f : Fault) : (s.raise f).sy = s.sy := rfl
@[simp] theorem State.raise_sz (s : State) (f : Fault) : (s.raise f).sz = s.sz := rfl
@[simp] theorem State.raise_loBuf (s : State) (f : Fault) : (s.raise f).loBuf = s.loBuf := rfl
@[simp] theorem State.raise_outX (s : State) (f : Fault) : (s.raise f).outX = s.outX := rfl
@[simp] theorem State.raise_outY (s : State) (f : Fault) : (s.raise f).outY = s.outY := rfl
@[simp] theorem State.raise_offX (s : State) (f : Fault) : (s.raise f).offX = s.offX := rfl
@[simp] theorem State.raise_offY (s : State) (f : Fault) : (s.raise f).offY = s.offY := rfl
@[simp] theorem State.raise_hcnt (s : State) (f : Fault) : (s.raise f).hcnt = s.hcnt := rfl
@[simp] theorem State.raise_ind (s : State) (f : Fault) : (s.raise f).ind = s.ind := rfl
@[simp] theorem State.raise_tickPend (s : State) (f : Fault) : (s.raise f).tickPend = s.tickPend := rfl
@[simp] theorem State.raise_calPend (s : State) (f : Fault) : (s.raise f).calPend = s.calPend := rfl
@[simp] theorem State.raise_calPrev (s : State) (f : Fault) : (s.raise f).calPrev = s.calPrev := rfl
@[simp] theorem State.raise_phase (s : State) (f : Fault) : (s.raise f).phase = s.phase := rfl
@[simp] theorem State.raise_bstep (s : State) (f : Fault) : (s.raise f).bstep = s.bstep := rfl
@[simp] theorem State.raise_csN (s : State) (f : Fault) : (s.raise f).csN = s.csN := rfl
@[simp] theorem State.raise_busTx (s : State) (f : Fault) : (s.raise f).busTx = s.busTx := rfl
@[simp] theorem State.raise_busGo (s : State) (f : Fault) : (s.raise f).busGo = s.busGo := rfl
@[simp] theorem State.raise_faults (s : State) (f : Fault) : (s.raise f).faults = insertFault f s.faults := rfl
@[simp] theorem State.raise_stuck (s : State) (f : Fault) : (s.raise f).stuck = some f := rfl
@[simp] theorem State.raise_history (s : State) (f : Fault) : (s.raise f).history = s.history := rfl
@[simp] theorem State.raise_script (s : State) (f : Fault) : (s.raise f).script = s.script := rfl
@[simp] theorem State.raise_draws (s : State) (f : Fault) : (s.raise f).draws = s.draws := rfl
@[simp] theorem State.raise_now (s : State) (f : Fault) : (s.raise f).now = s.now := rfl
@[simp] theorem State.raise_level (s : State) (f : Fault) : (s.raise f).level = s.level := rfl

/-! ### recordChanges: recording what changed -/

@[simp] theorem recordChanges_cfg (old new : State) : (recordChanges old new).cfg = new.cfg := rfl
@[simp] theorem recordChanges_sx (old new : State) : (recordChanges old new).sx = new.sx := rfl
@[simp] theorem recordChanges_sy (old new : State) : (recordChanges old new).sy = new.sy := rfl
@[simp] theorem recordChanges_sz (old new : State) : (recordChanges old new).sz = new.sz := rfl
@[simp] theorem recordChanges_loBuf (old new : State) : (recordChanges old new).loBuf = new.loBuf := rfl
@[simp] theorem recordChanges_outX (old new : State) : (recordChanges old new).outX = new.outX := rfl
@[simp] theorem recordChanges_outY (old new : State) : (recordChanges old new).outY = new.outY := rfl
@[simp] theorem recordChanges_offX (old new : State) : (recordChanges old new).offX = new.offX := rfl
@[simp] theorem recordChanges_offY (old new : State) : (recordChanges old new).offY = new.offY := rfl
@[simp] theorem recordChanges_hcnt (old new : State) : (recordChanges old new).hcnt = new.hcnt := rfl
@[simp] theorem recordChanges_ind (old new : State) : (recordChanges old new).ind = new.ind := rfl
@[simp] theorem recordChanges_tickPend (old new : State) : (recordChanges old new).tickPend = new.tickPend := rfl
@[simp] theorem recordChanges_calPend (old new : State) : (recordChanges old new).calPend = new.calPend := rfl
@[simp] theorem recordChanges_calPrev (old new : State) : (recordChanges old new).calPrev = new.calPrev := rfl
@[simp] theorem recordChanges_phase (old new : State) : (recordChanges old new).phase = new.phase := rfl
@[simp] theorem recordChanges_bstep (old new : State) : (recordChanges old new).bstep = new.bstep := rfl
@[simp] theorem recordChanges_csN (old new : State) : (recordChanges old new).csN = new.csN := rfl
@[simp] theorem recordChanges_busTx (old new : State) : (recordChanges old new).busTx = new.busTx := rfl
@[simp] theorem recordChanges_busGo (old new : State) : (recordChanges old new).busGo = new.busGo := rfl
@[simp] theorem recordChanges_faults (old new : State) : (recordChanges old new).faults = new.faults := rfl
@[simp] theorem recordChanges_stuck (old new : State) : (recordChanges old new).stuck = new.stuck := rfl
@[simp] theorem recordChanges_history (old new : State) : (recordChanges old new).history = changes old new ++ new.history := rfl
@[simp] theorem recordChanges_script (old new : State) : (recordChanges old new).script = new.script := rfl
@[simp] theorem recordChanges_draws (old new : State) : (recordChanges old new).draws = new.draws := rfl
@[simp] theorem recordChanges_now (old new : State) : (recordChanges old new).now = new.now := rfl
@[simp] theorem recordChanges_level (old new : State) : (recordChanges old new).level = new.level := rfl

/-! ### State.issueAddress: step T0 of a transaction -/

@[simp] theorem State.issueAddress_cfg (s : State) (b : Byte) : (s.issueAddress b).cfg = s.cfg := rfl
@[simp] theorem State.issueAddress_sx (s : State) (b : Byte) : (s.issueAddress b).sx = s.sx := rfl
@[simp] theorem State.issueAddress_sy (s : State) (b : Byte) : (s.issueAddress b).sy = s.sy := rfl
@[simp] theorem State.issueAddress_sz (s : State) (b : Byte) : (s.issueAddress b).sz = s.sz := rfl
@[simp] theorem State.issueAddress_loBuf (s : State) (b : Byte) : (s.issueAddress b).loBuf = s.loBuf := rfl
@[simp] theorem State.issueAddress_outX (s : State) (b : Byte) : (s.issueAddress b).outX = s.outX := rfl
@[simp] theorem State.issueAddress_outY (s : State) (b : Byte) : (s.issueAddress b).outY = s.outY := rfl
@[simp] theorem State.issueAddress_offX (s : State) (b : Byte) : (s.issueAddress b).offX = s.offX := rfl
@[simp] theorem State.issueAddress_offY (s : State) (b : Byte) : (s.issueAddress b).offY = s.offY := rfl
@[simp] theorem State.issueAddress_hcnt (s : State) (b : Byte) : (s.issueAddress b).hcnt = s.hcnt := rfl
@[simp] theorem State.issueAddress_ind (s : State) (b : Byte) : (s.issueAddress b).ind = s.ind := rfl
@[simp] theorem State.issueAddress_tickPend (s : State) (b : Byte) : (s.issueAddress b).tickPend = s.tickPend := rfl
@[simp] theorem State.issueAddress_calPend (s : State) (b : Byte) : (s.issueAddress b).calPend = s.calPend := rfl
@[simp] theorem State.issueAddress_calPrev (s : State) (b : Byte) : (s.issueAddress b).calPrev = s.calPrev := rfl
@[simp] theorem State.issueAddress_phase (s : State) (b : Byte) : (s.issueAddress b).phase = s.phase := rfl
@[simp] theorem State.issueAddress_bstep (s : State) (b : Byte) : (s.issueAddress b).bstep = BStep.addr := rfl
@[simp] theorem State.issueAddress_csN (s : State) (b : Byte) : (s.issueAddress b).csN = false := rfl
@[simp] theorem State.issueAddress_busTx (s : State) (b : Byte) : (s.issueAddress b).busTx = b := rfl
@[simp] theorem State.issueAddress_busGo (s : State) (b : Byte) : (s.issueAddress b).busGo = true := rfl
@[simp] theorem State.issueAddress_faults (s : State) (b : Byte) : (s.issueAddress b).faults = s.faults := rfl
@[simp] theorem State.issueAddress_stuck (s : State) (b : Byte) : (s.issueAddress b).stuck = s.stuck := rfl
@[simp] theorem State.issueAddress_history (s : State) (b : Byte) : (s.issueAddress b).history = s.history := rfl
@[simp] theorem State.issueAddress_script (s : State) (b : Byte) : (s.issueAddress b).script = s.script := rfl
@[simp] theorem State.issueAddress_draws (s : State) (b : Byte) : (s.issueAddress b).draws = s.draws := rfl
@[simp] theorem State.issueAddress_now (s : State) (b : Byte) : (s.issueAddress b).now = s.now := rfl
@[simp] theorem State.issueAddress_level (s : State) (b : Byte) : (s.issueAddress b).level = s.level := rfl

/-! ### State.issueData: step T1 of a transaction -/

@[simp] theorem State.issueData_cfg (s : State) (b : Byte) : (s.issueData b).cfg = s.cfg := rfl
@[simp] theorem State.issueData_sx (s : State) (b : Byte) : (s.issueData b).sx = s.sx := rfl
@[simp] theorem State.issueData_sy (s : State) (b : Byte) : (s.issueData b).sy = s.sy := rfl
@[simp] theorem State.issueData_sz (s : State) (b : Byte) : (s.issueData b).sz = s.sz := rfl
@[simp] theorem State.issueData_loBuf (s : State) (b : Byte) : (s.issueData b).loBuf = s.loBuf := rfl
@[simp] theorem State.issueData_outX (s : State) (b : Byte) : (s.issueData b).outX = s.outX := rfl
@[simp] theorem State.issueData_outY (s : State) (b : Byte) : (s.issueData b).outY = s.outY := rfl
@[simp] theorem State.issueData_offX (s : State) (b : Byte) : (s.issueData b).offX = s.offX := rfl
@[simp] theorem State.issueData_offY (s : State) (b : Byte) : (s.issueData b).offY = s.offY := rfl
@[simp] theorem State.issueData_hcnt (s : State) (b : Byte) : (s.issueData b).hcnt = s.hcnt := rfl
@[simp] theorem State.issueData_ind (s : State) (b : Byte) : (s.issueData b).ind = s.ind := rfl
@[simp] theorem State.issueData_tickPend (s : State) (b : Byte) : (s.issueData b).tickPend = s.tickPend := rfl
@[simp] theorem State.issueData_calPend (s : State) (b : Byte) : (s.issueData b).calPend = s.calPend := rfl
@[simp] theorem State.issueData_calPrev (s : State) (b : Byte) : (s.issueData b).calPrev = s.calPrev := rfl
@[simp] theorem State.issueData_phase (s : State) (b : Byte) : (s.issueData b).phase = s.phase := rfl
@[simp] theorem State.issueData_bstep (s : State) (b : Byte) : (s.issueData b).bstep = BStep.data := rfl
@[simp] theorem State.issueData_csN (s : State) (b : Byte) : (s.issueData b).csN = s.csN := rfl
@[simp] theorem State.issueData_busTx (s : State) (b : Byte) : (s.issueData b).busTx = b := rfl
@[simp] theorem State.issueData_busGo (s : State) (b : Byte) : (s.issueData b).busGo = true := rfl
@[simp] theorem State.issueData_faults (s : State) (b : Byte) : (s.issueData b).faults = s.faults := rfl
@[simp] theorem State.issueData_stuck (s : State) (b : Byte) : (s.issueData b).stuck = s.stuck := rfl
@[simp] theorem State.issueData_history (s : State) (b : Byte) : (s.issueData b).history = s.history := rfl
@[simp] theorem State.issueData_script (s : State) (b : Byte) : (s.issueData b).script = s.script := rfl
@[simp] theorem State.issueData_draws (s : State) (b : Byte) : (s.issueData b).draws = s.draws := rfl
@[simp] theorem State.issueData_now (s : State) (b : Byte) : (s.issueData b).now = s.now := rfl
@[simp] theorem State.issueData_level (s : State) (b : Byte) : (s.issueData b).level = s.level := rfl

/-! ### State.holdBus: a wait for the bus -/

@[simp] theorem State.holdBus_cfg (s : State) : (s.holdBus).cfg = s.cfg := rfl
@[simp] theorem State.holdBus_sx (s : State) : (s.holdBus).sx = s.sx := rfl
@[simp] theorem State.holdBus_sy (s : State) : (s.holdBus).sy = s.sy := rfl
@[simp] theorem State.holdBus_sz (s : State) : (s.holdBus).sz = s.sz := rfl
@[simp] theorem State.holdBus_loBuf (s : State) : (s.holdBus).loBuf = s.loBuf := rfl
@[simp] theorem State.holdBus_outX (s : State) : (s.holdBus).outX = s.outX := rfl
@[simp] theorem State.holdBus_outY (s : State) : (s.holdBus).outY = s.outY := rfl
@[simp] theorem State.holdBus_offX (s : State) : (s.holdBus).offX = s.offX := rfl
@[simp] theorem State.holdBus_offY (s : State) : (s.holdBus).offY = s.offY := rfl
@[simp] theorem State.holdBus_hcnt (s : State) : (s.holdBus).hcnt = s.hcnt := rfl
@[simp] theorem State.holdBus_ind (s : State) : (s.holdBus).ind = s.ind := rfl
@[simp] theorem State.holdBus_tickPend (s : State) : (s.holdBus).tickPend = s.tickPend := rfl
@[simp] theorem State.holdBus_calPend (s : State) : (s.holdBus).calPend = s.calPend := rfl
@[simp] theorem State.holdBus_calPrev (s : State) : (s.holdBus).calPrev = s.calPrev := rfl
@[simp] theorem State.holdBus_phase (s : State) : (s.holdBus).phase = s.phase := rfl
@[simp] theorem State.holdBus_bstep (s : State) : (s.holdBus).bstep = s.bstep := rfl
@[simp] theorem State.holdBus_csN (s : State) : (s.holdBus).csN = s.csN := rfl
@[simp] theorem State.holdBus_busTx (s : State) : (s.holdBus).busTx = s.busTx := rfl
@[simp] theorem State.holdBus_busGo (s : State) : (s.holdBus).busGo = false := rfl
@[simp] theorem State.holdBus_faults (s : State) : (s.holdBus).faults = s.faults := rfl
@[simp] theorem State.holdBus_stuck (s : State) : (s.holdBus).stuck = s.stuck := rfl
@[simp] theorem State.holdBus_history (s : State) : (s.holdBus).history = s.history := rfl
@[simp] theorem State.holdBus_script (s : State) : (s.holdBus).script = s.script := rfl
@[simp] theorem State.holdBus_draws (s : State) : (s.holdBus).draws = s.draws := rfl
@[simp] theorem State.holdBus_now (s : State) : (s.holdBus).now = s.now := rfl
@[simp] theorem State.holdBus_level (s : State) : (s.holdBus).level = s.level := rfl

/-! ### State.completeBus: step T2 of a transaction -/

@[simp] theorem State.completeBus_cfg (s : State) (b0 b1 rx : Byte) : (s.completeBus b0 b1 rx).cfg = s.cfg := rfl
@[simp] theorem State.completeBus_sx (s : State) (b0 b1 rx : Byte) : (s.completeBus b0 b1 rx).sx = s.sx := rfl
@[simp] theorem State.completeBus_sy (s : State) (b0 b1 rx : Byte) : (s.completeBus b0 b1 rx).sy = s.sy := rfl
@[simp] theorem State.completeBus_sz (s : State) (b0 b1 rx : Byte) : (s.completeBus b0 b1 rx).sz = s.sz := rfl
@[simp] theorem State.completeBus_loBuf (s : State) (b0 b1 rx : Byte) : (s.completeBus b0 b1 rx).loBuf = s.loBuf := rfl
@[simp] theorem State.completeBus_outX (s : State) (b0 b1 rx : Byte) : (s.completeBus b0 b1 rx).outX = s.outX := rfl
@[simp] theorem State.completeBus_outY (s : State) (b0 b1 rx : Byte) : (s.completeBus b0 b1 rx).outY = s.outY := rfl
@[simp] theorem State.completeBus_offX (s : State) (b0 b1 rx : Byte) : (s.completeBus b0 b1 rx).offX = s.offX := rfl
@[simp] theorem State.completeBus_offY (s : State) (b0 b1 rx : Byte) : (s.completeBus b0 b1 rx).offY = s.offY := rfl
@[simp] theorem State.completeBus_hcnt (s : State) (b0 b1 rx : Byte) : (s.completeBus b0 b1 rx).hcnt = s.hcnt := rfl
@[simp] theorem State.completeBus_ind (s : State) (b0 b1 rx : Byte) : (s.completeBus b0 b1 rx).ind = s.ind := rfl
@[simp] theorem State.completeBus_tickPend (s : State) (b0 b1 rx : Byte) : (s.completeBus b0 b1 rx).tickPend = s.tickPend := rfl
@[simp] theorem State.completeBus_calPend (s : State) (b0 b1 rx : Byte) : (s.completeBus b0 b1 rx).calPend = s.calPend := rfl
@[simp] theorem State.completeBus_calPrev (s : State) (b0 b1 rx : Byte) : (s.completeBus b0 b1 rx).calPrev = s.calPrev := rfl
@[simp] theorem State.completeBus_phase (s : State) (b0 b1 rx : Byte) : (s.completeBus b0 b1 rx).phase = s.phase := rfl
@[simp] theorem State.completeBus_bstep (s : State) (b0 b1 rx : Byte) : (s.completeBus b0 b1 rx).bstep = BStep.idle := rfl
@[simp] theorem State.completeBus_csN (s : State) (b0 b1 rx : Byte) : (s.completeBus b0 b1 rx).csN = true := rfl
@[simp] theorem State.completeBus_busTx (s : State) (b0 b1 rx : Byte) : (s.completeBus b0 b1 rx).busTx = s.busTx := rfl
@[simp] theorem State.completeBus_busGo (s : State) (b0 b1 rx : Byte) : (s.completeBus b0 b1 rx).busGo = false := rfl
@[simp] theorem State.completeBus_faults (s : State) (b0 b1 rx : Byte) : (s.completeBus b0 b1 rx).faults = s.faults := rfl
@[simp] theorem State.completeBus_stuck (s : State) (b0 b1 rx : Byte) : (s.completeBus b0 b1 rx).stuck = s.stuck := rfl
@[simp] theorem State.completeBus_history (s : State) (b0 b1 rx : Byte) : (s.completeBus b0 b1 rx).history = .transaction (b0.extractLsb' 0 7) b0 b1 rx :: s.history := rfl
@[simp] theorem State.completeBus_script (s : State) (b0 b1 rx : Byte) : (s.completeBus b0 b1 rx).script = s.script := rfl
@[simp] theorem State.completeBus_draws (s : State) (b0 b1 rx : Byte) : (s.completeBus b0 b1 rx).draws = s.draws := rfl
@[simp] theorem State.completeBus_now (s : State) (b0 b1 rx : Byte) : (s.completeBus b0 b1 rx).now = s.now := rfl
@[simp] theorem State.completeBus_level (s : State) (b0 b1 rx : Byte) : (s.completeBus b0 b1 rx).level = s.level := rfl

/-! ### State.takeLow: a low byte received -/

@[simp] theorem State.takeLow_cfg (s : State) (d : Byte) (p : PhaseCode) : (s.takeLow d p).cfg = s.cfg := rfl
@[simp] theorem State.takeLow_sx (s : State) (d : Byte) (p : PhaseCode) : (s.takeLow d p).sx = s.sx := rfl
@[simp] theorem State.takeLow_sy (s : State) (d : Byte) (p : PhaseCode) : (s.takeLow d p).sy = s.sy := rfl
@[simp] theorem State.takeLow_sz (s : State) (d : Byte) (p : PhaseCode) : (s.takeLow d p).sz = s.sz := rfl
@[simp] theorem State.takeLow_loBuf (s : State) (d : Byte) (p : PhaseCode) : (s.takeLow d p).loBuf = d := rfl
@[simp] theorem State.takeLow_outX (s : State) (d : Byte) (p : PhaseCode) : (s.takeLow d p).outX = s.outX := rfl
@[simp] theorem State.takeLow_outY (s : State) (d : Byte) (p : PhaseCode) : (s.takeLow d p).outY = s.outY := rfl
@[simp] theorem State.takeLow_offX (s : State) (d : Byte) (p : PhaseCode) : (s.takeLow d p).offX = s.offX := rfl
@[simp] theorem State.takeLow_offY (s : State) (d : Byte) (p : PhaseCode) : (s.takeLow d p).offY = s.offY := rfl
@[simp] theorem State.takeLow_hcnt (s : State) (d : Byte) (p : PhaseCode) : (s.takeLow d p).hcnt = s.hcnt := rfl
@[simp] theorem State.takeLow_ind (s : State) (d : Byte) (p : PhaseCode) : (s.takeLow d p).ind = s.ind := rfl
@[simp] theorem State.takeLow_tickPend (s : State) (d : Byte) (p : PhaseCode) : (s.takeLow d p).tickPend = s.tickPend := rfl
@[simp] theorem State.takeLow_calPend (s : State) (d : Byte) (p : PhaseCode) : (s.takeLow d p).calPend = s.calPend := rfl
@[simp] theorem State.takeLow_calPrev (s : State) (d : Byte) (p : PhaseCode) : (s.takeLow d p).calPrev = s.calPrev := rfl
@[simp] theorem State.takeLow_phase (s : State) (d : Byte) (p : PhaseCode) : (s.takeLow d p).phase = p := rfl
@[simp] theorem State.takeLow_bstep (s : State) (d : Byte) (p : PhaseCode) : (s.takeLow d p).bstep = s.bstep := rfl
@[simp] theorem State.takeLow_csN (s : State) (d : Byte) (p : PhaseCode) : (s.takeLow d p).csN = s.csN := rfl
@[simp] theorem State.takeLow_busTx (s : State) (d : Byte) (p : PhaseCode) : (s.takeLow d p).busTx = s.busTx := rfl
@[simp] theorem State.takeLow_busGo (s : State) (d : Byte) (p : PhaseCode) : (s.takeLow d p).busGo = s.busGo := rfl
@[simp] theorem State.takeLow_faults (s : State) (d : Byte) (p : PhaseCode) : (s.takeLow d p).faults = s.faults := rfl
@[simp] theorem State.takeLow_stuck (s : State) (d : Byte) (p : PhaseCode) : (s.takeLow d p).stuck = s.stuck := rfl
@[simp] theorem State.takeLow_history (s : State) (d : Byte) (p : PhaseCode) : (s.takeLow d p).history = s.history := rfl
@[simp] theorem State.takeLow_script (s : State) (d : Byte) (p : PhaseCode) : (s.takeLow d p).script = s.script := rfl
@[simp] theorem State.takeLow_draws (s : State) (d : Byte) (p : PhaseCode) : (s.takeLow d p).draws = s.draws := rfl
@[simp] theorem State.takeLow_now (s : State) (d : Byte) (p : PhaseCode) : (s.takeLow d p).now = s.now := rfl
@[simp] theorem State.takeLow_level (s : State) (d : Byte) (p : PhaseCode) : (s.takeLow d p).level = s.level := rfl

/-! ### State.takeHighX: the x sample assembled -/

@[simp] theorem State.takeHighX_cfg (s : State) (d : Byte) : (s.takeHighX d).cfg = s.cfg := rfl
@[simp] theorem State.takeHighX_sx (s : State) (d : Byte) : (s.takeHighX d).sx = assemble s.loBuf d := rfl
@[simp] theorem State.takeHighX_sy (s : State) (d : Byte) : (s.takeHighX d).sy = s.sy := rfl
@[simp] theorem State.takeHighX_sz (s : State) (d : Byte) : (s.takeHighX d).sz = s.sz := rfl
@[simp] theorem State.takeHighX_loBuf (s : State) (d : Byte) : (s.takeHighX d).loBuf = s.loBuf := rfl
@[simp] theorem State.takeHighX_outX (s : State) (d : Byte) : (s.takeHighX d).outX = s.outX := rfl
@[simp] theorem State.takeHighX_outY (s : State) (d : Byte) : (s.takeHighX d).outY = s.outY := rfl
@[simp] theorem State.takeHighX_offX (s : State) (d : Byte) : (s.takeHighX d).offX = s.offX := rfl
@[simp] theorem State.takeHighX_offY (s : State) (d : Byte) : (s.takeHighX d).offY = s.offY := rfl
@[simp] theorem State.takeHighX_hcnt (s : State) (d : Byte) : (s.takeHighX d).hcnt = s.hcnt := rfl
@[simp] theorem State.takeHighX_ind (s : State) (d : Byte) : (s.takeHighX d).ind = s.ind := rfl
@[simp] theorem State.takeHighX_tickPend (s : State) (d : Byte) : (s.takeHighX d).tickPend = s.tickPend := rfl
@[simp] theorem State.takeHighX_calPend (s : State) (d : Byte) : (s.takeHighX d).calPend = s.calPend := rfl
@[simp] theorem State.takeHighX_calPrev (s : State) (d : Byte) : (s.takeHighX d).calPrev = s.calPrev := rfl
@[simp] theorem State.takeHighX_phase (s : State) (d : Byte) : (s.takeHighX d).phase = Phase.rdYL := rfl
@[simp] theorem State.takeHighX_bstep (s : State) (d : Byte) : (s.takeHighX d).bstep = s.bstep := rfl
@[simp] theorem State.takeHighX_csN (s : State) (d : Byte) : (s.takeHighX d).csN = s.csN := rfl
@[simp] theorem State.takeHighX_busTx (s : State) (d : Byte) : (s.takeHighX d).busTx = s.busTx := rfl
@[simp] theorem State.takeHighX_busGo (s : State) (d : Byte) : (s.takeHighX d).busGo = s.busGo := rfl
@[simp] theorem State.takeHighX_faults (s : State) (d : Byte) : (s.takeHighX d).faults = s.faults := rfl
@[simp] theorem State.takeHighX_stuck (s : State) (d : Byte) : (s.takeHighX d).stuck = s.stuck := rfl
@[simp] theorem State.takeHighX_history (s : State) (d : Byte) : (s.takeHighX d).history = s.history := rfl
@[simp] theorem State.takeHighX_script (s : State) (d : Byte) : (s.takeHighX d).script = s.script := rfl
@[simp] theorem State.takeHighX_draws (s : State) (d : Byte) : (s.takeHighX d).draws = s.draws := rfl
@[simp] theorem State.takeHighX_now (s : State) (d : Byte) : (s.takeHighX d).now = s.now := rfl
@[simp] theorem State.takeHighX_level (s : State) (d : Byte) : (s.takeHighX d).level = s.level := rfl

/-! ### State.takeHighY: the y sample assembled -/

@[simp] theorem State.takeHighY_cfg (s : State) (d : Byte) : (s.takeHighY d).cfg = s.cfg := rfl
@[simp] theorem State.takeHighY_sx (s : State) (d : Byte) : (s.takeHighY d).sx = s.sx := rfl
@[simp] theorem State.takeHighY_sy (s : State) (d : Byte) : (s.takeHighY d).sy = assemble s.loBuf d := rfl
@[simp] theorem State.takeHighY_sz (s : State) (d : Byte) : (s.takeHighY d).sz = s.sz := rfl
@[simp] theorem State.takeHighY_loBuf (s : State) (d : Byte) : (s.takeHighY d).loBuf = s.loBuf := rfl
@[simp] theorem State.takeHighY_outX (s : State) (d : Byte) : (s.takeHighY d).outX = s.outX := rfl
@[simp] theorem State.takeHighY_outY (s : State) (d : Byte) : (s.takeHighY d).outY = s.outY := rfl
@[simp] theorem State.takeHighY_offX (s : State) (d : Byte) : (s.takeHighY d).offX = s.offX := rfl
@[simp] theorem State.takeHighY_offY (s : State) (d : Byte) : (s.takeHighY d).offY = s.offY := rfl
@[simp] theorem State.takeHighY_hcnt (s : State) (d : Byte) : (s.takeHighY d).hcnt = s.hcnt := rfl
@[simp] theorem State.takeHighY_ind (s : State) (d : Byte) : (s.takeHighY d).ind = s.ind := rfl
@[simp] theorem State.takeHighY_tickPend (s : State) (d : Byte) : (s.takeHighY d).tickPend = s.tickPend := rfl
@[simp] theorem State.takeHighY_calPend (s : State) (d : Byte) : (s.takeHighY d).calPend = s.calPend := rfl
@[simp] theorem State.takeHighY_calPrev (s : State) (d : Byte) : (s.takeHighY d).calPrev = s.calPrev := rfl
@[simp] theorem State.takeHighY_phase (s : State) (d : Byte) : (s.takeHighY d).phase = Phase.rdZL := rfl
@[simp] theorem State.takeHighY_bstep (s : State) (d : Byte) : (s.takeHighY d).bstep = s.bstep := rfl
@[simp] theorem State.takeHighY_csN (s : State) (d : Byte) : (s.takeHighY d).csN = s.csN := rfl
@[simp] theorem State.takeHighY_busTx (s : State) (d : Byte) : (s.takeHighY d).busTx = s.busTx := rfl
@[simp] theorem State.takeHighY_busGo (s : State) (d : Byte) : (s.takeHighY d).busGo = s.busGo := rfl
@[simp] theorem State.takeHighY_faults (s : State) (d : Byte) : (s.takeHighY d).faults = s.faults := rfl
@[simp] theorem State.takeHighY_stuck (s : State) (d : Byte) : (s.takeHighY d).stuck = s.stuck := rfl
@[simp] theorem State.takeHighY_history (s : State) (d : Byte) : (s.takeHighY d).history = s.history := rfl
@[simp] theorem State.takeHighY_script (s : State) (d : Byte) : (s.takeHighY d).script = s.script := rfl
@[simp] theorem State.takeHighY_draws (s : State) (d : Byte) : (s.takeHighY d).draws = s.draws := rfl
@[simp] theorem State.takeHighY_now (s : State) (d : Byte) : (s.takeHighY d).now = s.now := rfl
@[simp] theorem State.takeHighY_level (s : State) (d : Byte) : (s.takeHighY d).level = s.level := rfl

/-! ### State.takeHighZ: the z sample assembled -/

@[simp] theorem State.takeHighZ_cfg (s : State) (d : Byte) : (s.takeHighZ d).cfg = s.cfg := rfl
@[simp] theorem State.takeHighZ_sx (s : State) (d : Byte) : (s.takeHighZ d).sx = s.sx := rfl
@[simp] theorem State.takeHighZ_sy (s : State) (d : Byte) : (s.takeHighZ d).sy = s.sy := rfl
@[simp] theorem State.takeHighZ_sz (s : State) (d : Byte) : (s.takeHighZ d).sz = assemble s.loBuf d := rfl
@[simp] theorem State.takeHighZ_loBuf (s : State) (d : Byte) : (s.takeHighZ d).loBuf = s.loBuf := rfl
@[simp] theorem State.takeHighZ_outX (s : State) (d : Byte) : (s.takeHighZ d).outX = s.outX := rfl
@[simp] theorem State.takeHighZ_outY (s : State) (d : Byte) : (s.takeHighZ d).outY = s.outY := rfl
@[simp] theorem State.takeHighZ_offX (s : State) (d : Byte) : (s.takeHighZ d).offX = s.offX := rfl
@[simp] theorem State.takeHighZ_offY (s : State) (d : Byte) : (s.takeHighZ d).offY = s.offY := rfl
@[simp] theorem State.takeHighZ_hcnt (s : State) (d : Byte) : (s.takeHighZ d).hcnt = s.hcnt := rfl
@[simp] theorem State.takeHighZ_ind (s : State) (d : Byte) : (s.takeHighZ d).ind = s.ind := rfl
@[simp] theorem State.takeHighZ_tickPend (s : State) (d : Byte) : (s.takeHighZ d).tickPend = s.tickPend := rfl
@[simp] theorem State.takeHighZ_calPend (s : State) (d : Byte) : (s.takeHighZ d).calPend = s.calPend := rfl
@[simp] theorem State.takeHighZ_calPrev (s : State) (d : Byte) : (s.takeHighZ d).calPrev = s.calPrev := rfl
@[simp] theorem State.takeHighZ_phase (s : State) (d : Byte) : (s.takeHighZ d).phase = Phase.map := rfl
@[simp] theorem State.takeHighZ_bstep (s : State) (d : Byte) : (s.takeHighZ d).bstep = s.bstep := rfl
@[simp] theorem State.takeHighZ_csN (s : State) (d : Byte) : (s.takeHighZ d).csN = s.csN := rfl
@[simp] theorem State.takeHighZ_busTx (s : State) (d : Byte) : (s.takeHighZ d).busTx = s.busTx := rfl
@[simp] theorem State.takeHighZ_busGo (s : State) (d : Byte) : (s.takeHighZ d).busGo = s.busGo := rfl
@[simp] theorem State.takeHighZ_faults (s : State) (d : Byte) : (s.takeHighZ d).faults = s.faults := rfl
@[simp] theorem State.takeHighZ_stuck (s : State) (d : Byte) : (s.takeHighZ d).stuck = s.stuck := rfl
@[simp] theorem State.takeHighZ_history (s : State) (d : Byte) : (s.takeHighZ d).history = s.history := rfl
@[simp] theorem State.takeHighZ_script (s : State) (d : Byte) : (s.takeHighZ d).script = s.script := rfl
@[simp] theorem State.takeHighZ_draws (s : State) (d : Byte) : (s.takeHighZ d).draws = s.draws := rfl
@[simp] theorem State.takeHighZ_now (s : State) (d : Byte) : (s.takeHighZ d).now = s.now := rfl
@[simp] theorem State.takeHighZ_level (s : State) (d : Byte) : (s.takeHighZ d).level = s.level := rfl

/-! ### State.commitOutputs: MAP's commit -/

@[simp] theorem State.commitOutputs_cfg (s : State) : (s.commitOutputs).cfg = s.cfg := rfl
@[simp] theorem State.commitOutputs_sx (s : State) : (s.commitOutputs).sx = s.sx := rfl
@[simp] theorem State.commitOutputs_sy (s : State) : (s.commitOutputs).sy = s.sy := rfl
@[simp] theorem State.commitOutputs_sz (s : State) : (s.commitOutputs).sz = s.sz := rfl
@[simp] theorem State.commitOutputs_loBuf (s : State) : (s.commitOutputs).loBuf = s.loBuf := rfl
@[simp] theorem State.commitOutputs_outX (s : State) : (s.commitOutputs).outX = (mapOutputs s.sx s.sy s.sz s.offX s.offY).1 := rfl
@[simp] theorem State.commitOutputs_outY (s : State) : (s.commitOutputs).outY = (mapOutputs s.sx s.sy s.sz s.offX s.offY).2 := rfl
@[simp] theorem State.commitOutputs_offX (s : State) : (s.commitOutputs).offX = s.offX := rfl
@[simp] theorem State.commitOutputs_offY (s : State) : (s.commitOutputs).offY = s.offY := rfl
@[simp] theorem State.commitOutputs_hcnt (s : State) : (s.commitOutputs).hcnt = s.hcnt := rfl
@[simp] theorem State.commitOutputs_ind (s : State) : (s.commitOutputs).ind = s.ind := rfl
@[simp] theorem State.commitOutputs_tickPend (s : State) : (s.commitOutputs).tickPend = s.tickPend := rfl
@[simp] theorem State.commitOutputs_calPend (s : State) : (s.commitOutputs).calPend = s.calPend := rfl
@[simp] theorem State.commitOutputs_calPrev (s : State) : (s.commitOutputs).calPrev = s.calPrev := rfl
@[simp] theorem State.commitOutputs_phase (s : State) : (s.commitOutputs).phase = Phase.debounce := rfl
@[simp] theorem State.commitOutputs_bstep (s : State) : (s.commitOutputs).bstep = s.bstep := rfl
@[simp] theorem State.commitOutputs_csN (s : State) : (s.commitOutputs).csN = s.csN := rfl
@[simp] theorem State.commitOutputs_busTx (s : State) : (s.commitOutputs).busTx = s.busTx := rfl
@[simp] theorem State.commitOutputs_busGo (s : State) : (s.commitOutputs).busGo = s.busGo := rfl
@[simp] theorem State.commitOutputs_faults (s : State) : (s.commitOutputs).faults = s.faults := rfl
@[simp] theorem State.commitOutputs_stuck (s : State) : (s.commitOutputs).stuck = s.stuck := rfl
@[simp] theorem State.commitOutputs_script (s : State) : (s.commitOutputs).script = s.script := rfl
@[simp] theorem State.commitOutputs_draws (s : State) : (s.commitOutputs).draws = s.draws := rfl
@[simp] theorem State.commitOutputs_now (s : State) : (s.commitOutputs).now = s.now := rfl

/-! ### State.debounced: DEBOUNCE's write -/

@[simp] theorem State.debounced_cfg (s : State) : (s.debounced).cfg = s.cfg := rfl
@[simp] theorem State.debounced_sx (s : State) : (s.debounced).sx = s.sx := rfl
@[simp] theorem State.debounced_sy (s : State) : (s.debounced).sy = s.sy := rfl
@[simp] theorem State.debounced_sz (s : State) : (s.debounced).sz = s.sz := rfl
@[simp] theorem State.debounced_loBuf (s : State) : (s.debounced).loBuf = s.loBuf := rfl
@[simp] theorem State.debounced_outX (s : State) : (s.debounced).outX = s.outX := rfl
@[simp] theorem State.debounced_outY (s : State) : (s.debounced).outY = s.outY := rfl
@[simp] theorem State.debounced_offX (s : State) : (s.debounced).offX = s.offX := rfl
@[simp] theorem State.debounced_offY (s : State) : (s.debounced).offY = s.offY := rfl
@[simp] theorem State.debounced_hcnt (s : State) : (s.debounced).hcnt = (debounceNext s.level s.hcnt s.ind).1 := rfl
@[simp] theorem State.debounced_ind (s : State) : (s.debounced).ind = (debounceNext s.level s.hcnt s.ind).2 := rfl
@[simp] theorem State.debounced_tickPend (s : State) : (s.debounced).tickPend = s.tickPend := rfl
@[simp] theorem State.debounced_calPend (s : State) : (s.debounced).calPend = s.calPend := rfl
@[simp] theorem State.debounced_calPrev (s : State) : (s.debounced).calPrev = s.calPrev := rfl
@[simp] theorem State.debounced_phase (s : State) : (s.debounced).phase = Phase.idle := rfl
@[simp] theorem State.debounced_bstep (s : State) : (s.debounced).bstep = s.bstep := rfl
@[simp] theorem State.debounced_csN (s : State) : (s.debounced).csN = s.csN := rfl
@[simp] theorem State.debounced_busTx (s : State) : (s.debounced).busTx = s.busTx := rfl
@[simp] theorem State.debounced_busGo (s : State) : (s.debounced).busGo = s.busGo := rfl
@[simp] theorem State.debounced_faults (s : State) : (s.debounced).faults = s.faults := rfl
@[simp] theorem State.debounced_stuck (s : State) : (s.debounced).stuck = s.stuck := rfl
@[simp] theorem State.debounced_script (s : State) : (s.debounced).script = s.script := rfl
@[simp] theorem State.debounced_draws (s : State) : (s.debounced).draws = s.draws := rfl
@[simp] theorem State.debounced_now (s : State) : (s.debounced).now = s.now := rfl
@[simp] theorem State.debounced_level (s : State) : (s.debounced).level = s.level := rfl

/-! ### State.calibrated: CALIB's write -/

@[simp] theorem State.calibrated_cfg (s : State) : (s.calibrated).cfg = s.cfg := rfl
@[simp] theorem State.calibrated_sx (s : State) : (s.calibrated).sx = s.sx := rfl
@[simp] theorem State.calibrated_sy (s : State) : (s.calibrated).sy = s.sy := rfl
@[simp] theorem State.calibrated_sz (s : State) : (s.calibrated).sz = s.sz := rfl
@[simp] theorem State.calibrated_loBuf (s : State) : (s.calibrated).loBuf = s.loBuf := rfl
@[simp] theorem State.calibrated_outX (s : State) : (s.calibrated).outX = s.outX := rfl
@[simp] theorem State.calibrated_outY (s : State) : (s.calibrated).outY = s.outY := rfl
@[simp] theorem State.calibrated_offX (s : State) : (s.calibrated).offX = calibLane s.outX s.offX := rfl
@[simp] theorem State.calibrated_offY (s : State) : (s.calibrated).offY = calibLane s.outY s.offY := rfl
@[simp] theorem State.calibrated_hcnt (s : State) : (s.calibrated).hcnt = s.hcnt := rfl
@[simp] theorem State.calibrated_ind (s : State) : (s.calibrated).ind = s.ind := rfl
@[simp] theorem State.calibrated_tickPend (s : State) : (s.calibrated).tickPend = s.tickPend := rfl
@[simp] theorem State.calibrated_calPend (s : State) : (s.calibrated).calPend = s.calPend := rfl
@[simp] theorem State.calibrated_calPrev (s : State) : (s.calibrated).calPrev = s.calPrev := rfl
@[simp] theorem State.calibrated_phase (s : State) : (s.calibrated).phase = Phase.idle := rfl
@[simp] theorem State.calibrated_bstep (s : State) : (s.calibrated).bstep = s.bstep := rfl
@[simp] theorem State.calibrated_csN (s : State) : (s.calibrated).csN = s.csN := rfl
@[simp] theorem State.calibrated_busTx (s : State) : (s.calibrated).busTx = s.busTx := rfl
@[simp] theorem State.calibrated_busGo (s : State) : (s.calibrated).busGo = s.busGo := rfl
@[simp] theorem State.calibrated_faults (s : State) : (s.calibrated).faults = s.faults := rfl
@[simp] theorem State.calibrated_stuck (s : State) : (s.calibrated).stuck = s.stuck := rfl
@[simp] theorem State.calibrated_history (s : State) : (s.calibrated).history = s.history := rfl
@[simp] theorem State.calibrated_script (s : State) : (s.calibrated).script = s.script := rfl
@[simp] theorem State.calibrated_draws (s : State) : (s.calibrated).draws = s.draws := rfl
@[simp] theorem State.calibrated_now (s : State) : (s.calibrated).now = s.now := rfl
@[simp] theorem State.calibrated_level (s : State) : (s.calibrated).level = s.level := rfl

/-! ### State.acceptTick: a tick taken -/

@[simp] theorem State.acceptTick_cfg (s : State) : (s.acceptTick).cfg = s.cfg := rfl
@[simp] theorem State.acceptTick_sx (s : State) : (s.acceptTick).sx = s.sx := rfl
@[simp] theorem State.acceptTick_sy (s : State) : (s.acceptTick).sy = s.sy := rfl
@[simp] theorem State.acceptTick_sz (s : State) : (s.acceptTick).sz = s.sz := rfl
@[simp] theorem State.acceptTick_loBuf (s : State) : (s.acceptTick).loBuf = s.loBuf := rfl
@[simp] theorem State.acceptTick_outX (s : State) : (s.acceptTick).outX = s.outX := rfl
@[simp] theorem State.acceptTick_outY (s : State) : (s.acceptTick).outY = s.outY := rfl
@[simp] theorem State.acceptTick_offX (s : State) : (s.acceptTick).offX = s.offX := rfl
@[simp] theorem State.acceptTick_offY (s : State) : (s.acceptTick).offY = s.offY := rfl
@[simp] theorem State.acceptTick_hcnt (s : State) : (s.acceptTick).hcnt = s.hcnt := rfl
@[simp] theorem State.acceptTick_ind (s : State) : (s.acceptTick).ind = s.ind := rfl
@[simp] theorem State.acceptTick_tickPend (s : State) : (s.acceptTick).tickPend = false := rfl
@[simp] theorem State.acceptTick_calPend (s : State) : (s.acceptTick).calPend = s.calPend := rfl
@[simp] theorem State.acceptTick_calPrev (s : State) : (s.acceptTick).calPrev = s.calPrev := rfl
@[simp] theorem State.acceptTick_phase (s : State) : (s.acceptTick).phase = Phase.rdXL := rfl
@[simp] theorem State.acceptTick_bstep (s : State) : (s.acceptTick).bstep = s.bstep := rfl
@[simp] theorem State.acceptTick_csN (s : State) : (s.acceptTick).csN = s.csN := rfl
@[simp] theorem State.acceptTick_busTx (s : State) : (s.acceptTick).busTx = s.busTx := rfl
@[simp] theorem State.acceptTick_busGo (s : State) : (s.acceptTick).busGo = s.busGo := rfl
@[simp] theorem State.acceptTick_faults (s : State) : (s.acceptTick).faults = s.faults := rfl
@[simp] theorem State.acceptTick_stuck (s : State) : (s.acceptTick).stuck = s.stuck := rfl
@[simp] theorem State.acceptTick_history (s : State) : (s.acceptTick).history = .tickTaken :: s.history := rfl
@[simp] theorem State.acceptTick_script (s : State) : (s.acceptTick).script = s.script := rfl
@[simp] theorem State.acceptTick_draws (s : State) : (s.acceptTick).draws = s.draws := rfl
@[simp] theorem State.acceptTick_now (s : State) : (s.acceptTick).now = s.now := rfl
@[simp] theorem State.acceptTick_level (s : State) : (s.acceptTick).level = s.level := rfl

/-! ### State.acceptCal: a calibration taken -/

@[simp] theorem State.acceptCal_cfg (s : State) : (s.acceptCal).cfg = s.cfg := rfl
@[simp] theorem State.acceptCal_sx (s : State) : (s.acceptCal).sx = s.sx := rfl
@[simp] theorem State.acceptCal_sy (s : State) : (s.acceptCal).sy = s.sy := rfl
@[simp] theorem State.acceptCal_sz (s : State) : (s.acceptCal).sz = s.sz := rfl
@[simp] theorem State.acceptCal_loBuf (s : State) : (s.acceptCal).loBuf = s.loBuf := rfl
@[simp] theorem State.acceptCal_outX (s : State) : (s.acceptCal).outX = s.outX := rfl
@[simp] theorem State.acceptCal_outY (s : State) : (s.acceptCal).outY = s.outY := rfl
@[simp] theorem State.acceptCal_offX (s : State) : (s.acceptCal).offX = s.offX := rfl
@[simp] theorem State.acceptCal_offY (s : State) : (s.acceptCal).offY = s.offY := rfl
@[simp] theorem State.acceptCal_hcnt (s : State) : (s.acceptCal).hcnt = s.hcnt := rfl
@[simp] theorem State.acceptCal_ind (s : State) : (s.acceptCal).ind = s.ind := rfl
@[simp] theorem State.acceptCal_tickPend (s : State) : (s.acceptCal).tickPend = s.tickPend := rfl
@[simp] theorem State.acceptCal_calPend (s : State) : (s.acceptCal).calPend = false := rfl
@[simp] theorem State.acceptCal_calPrev (s : State) : (s.acceptCal).calPrev = s.calPrev := rfl
@[simp] theorem State.acceptCal_phase (s : State) : (s.acceptCal).phase = Phase.calib := rfl
@[simp] theorem State.acceptCal_bstep (s : State) : (s.acceptCal).bstep = s.bstep := rfl
@[simp] theorem State.acceptCal_csN (s : State) : (s.acceptCal).csN = s.csN := rfl
@[simp] theorem State.acceptCal_busTx (s : State) : (s.acceptCal).busTx = s.busTx := rfl
@[simp] theorem State.acceptCal_busGo (s : State) : (s.acceptCal).busGo = s.busGo := rfl
@[simp] theorem State.acceptCal_faults (s : State) : (s.acceptCal).faults = s.faults := rfl
@[simp] theorem State.acceptCal_stuck (s : State) : (s.acceptCal).stuck = s.stuck := rfl
@[simp] theorem State.acceptCal_history (s : State) : (s.acceptCal).history = .calTaken :: s.history := rfl
@[simp] theorem State.acceptCal_script (s : State) : (s.acceptCal).script = s.script := rfl
@[simp] theorem State.acceptCal_draws (s : State) : (s.acceptCal).draws = s.draws := rfl
@[simp] theorem State.acceptCal_now (s : State) : (s.acceptCal).now = s.now := rfl
@[simp] theorem State.acceptCal_level (s : State) : (s.acceptCal).level = s.level := rfl

/-! ### State.drawn: a draw made -/

@[simp] theorem State.drawn_cfg (s : State) : (s.drawn).cfg = s.cfg := rfl
@[simp] theorem State.drawn_sx (s : State) : (s.drawn).sx = s.sx := rfl
@[simp] theorem State.drawn_sy (s : State) : (s.drawn).sy = s.sy := rfl
@[simp] theorem State.drawn_sz (s : State) : (s.drawn).sz = s.sz := rfl
@[simp] theorem State.drawn_loBuf (s : State) : (s.drawn).loBuf = s.loBuf := rfl
@[simp] theorem State.drawn_outX (s : State) : (s.drawn).outX = s.outX := rfl
@[simp] theorem State.drawn_outY (s : State) : (s.drawn).outY = s.outY := rfl
@[simp] theorem State.drawn_offX (s : State) : (s.drawn).offX = s.offX := rfl
@[simp] theorem State.drawn_offY (s : State) : (s.drawn).offY = s.offY := rfl
@[simp] theorem State.drawn_hcnt (s : State) : (s.drawn).hcnt = s.hcnt := rfl
@[simp] theorem State.drawn_ind (s : State) : (s.drawn).ind = s.ind := rfl
@[simp] theorem State.drawn_tickPend (s : State) : (s.drawn).tickPend = s.tickPend := rfl
@[simp] theorem State.drawn_calPend (s : State) : (s.drawn).calPend = s.calPend := rfl
@[simp] theorem State.drawn_calPrev (s : State) : (s.drawn).calPrev = s.calPrev := rfl
@[simp] theorem State.drawn_phase (s : State) : (s.drawn).phase = s.phase := rfl
@[simp] theorem State.drawn_bstep (s : State) : (s.drawn).bstep = s.bstep := rfl
@[simp] theorem State.drawn_csN (s : State) : (s.drawn).csN = s.csN := rfl
@[simp] theorem State.drawn_busTx (s : State) : (s.drawn).busTx = s.busTx := rfl
@[simp] theorem State.drawn_busGo (s : State) : (s.drawn).busGo = s.busGo := rfl
@[simp] theorem State.drawn_faults (s : State) : (s.drawn).faults = s.faults := rfl
@[simp] theorem State.drawn_stuck (s : State) : (s.drawn).stuck = s.stuck := rfl
@[simp] theorem State.drawn_history (s : State) : (s.drawn).history = s.history := rfl
@[simp] theorem State.drawn_script (s : State) : (s.drawn).script = s.script := rfl
@[simp] theorem State.drawn_draws (s : State) : (s.drawn).draws = s.draws + 1 := rfl
@[simp] theorem State.drawn_level (s : State) : (s.drawn).level = s.level := rfl

/-! ### State.applyReset: reset -/

@[simp] theorem State.applyReset_cfg (s : State) : (s.applyReset).cfg = s.cfg := rfl
@[simp] theorem State.applyReset_sx (s : State) : (s.applyReset).sx = Config.unspecSx s.draws := rfl
@[simp] theorem State.applyReset_sy (s : State) : (s.applyReset).sy = Config.unspecSy s.draws := rfl
@[simp] theorem State.applyReset_sz (s : State) : (s.applyReset).sz = Config.unspecSz s.draws := rfl
@[simp] theorem State.applyReset_loBuf (s : State) : (s.applyReset).loBuf = Config.unspecLoBuf s.draws := rfl
@[simp] theorem State.applyReset_outX (s : State) : (s.applyReset).outX = s.cfg.outResetX := rfl
@[simp] theorem State.applyReset_outY (s : State) : (s.applyReset).outY = s.cfg.outResetY := rfl
@[simp] theorem State.applyReset_offX (s : State) : (s.applyReset).offX = 0 := rfl
@[simp] theorem State.applyReset_offY (s : State) : (s.applyReset).offY = 0 := rfl
@[simp] theorem State.applyReset_hcnt (s : State) : (s.applyReset).hcnt = hystReload := rfl
@[simp] theorem State.applyReset_ind (s : State) : (s.applyReset).ind = false := rfl
@[simp] theorem State.applyReset_tickPend (s : State) : (s.applyReset).tickPend = false := rfl
@[simp] theorem State.applyReset_calPend (s : State) : (s.applyReset).calPend = false := rfl
@[simp] theorem State.applyReset_calPrev (s : State) : (s.applyReset).calPrev = s.now.calIn := rfl
@[simp] theorem State.applyReset_phase (s : State) : (s.applyReset).phase = Phase.initW1 := rfl
@[simp] theorem State.applyReset_bstep (s : State) : (s.applyReset).bstep = BStep.idle := rfl
@[simp] theorem State.applyReset_csN (s : State) : (s.applyReset).csN = true := rfl
@[simp] theorem State.applyReset_busTx (s : State) : (s.applyReset).busTx = Config.unspecBusTx s.draws := rfl
@[simp] theorem State.applyReset_busGo (s : State) : (s.applyReset).busGo = false := rfl
@[simp] theorem State.applyReset_faults (s : State) : (s.applyReset).faults = s.faults := rfl
@[simp] theorem State.applyReset_stuck (s : State) : (s.applyReset).stuck = none := rfl
@[simp] theorem State.applyReset_script (s : State) : (s.applyReset).script = s.script := rfl
@[simp] theorem State.applyReset_draws (s : State) : (s.applyReset).draws = s.draws + 1 := rfl

/-! ### latchCal: the calibration input sampled -/

@[simp] theorem latchCal_cfg (s t : State) : (latchCal s t).cfg = t.cfg := rfl
@[simp] theorem latchCal_sx (s t : State) : (latchCal s t).sx = t.sx := rfl
@[simp] theorem latchCal_sy (s t : State) : (latchCal s t).sy = t.sy := rfl
@[simp] theorem latchCal_sz (s t : State) : (latchCal s t).sz = t.sz := rfl
@[simp] theorem latchCal_loBuf (s t : State) : (latchCal s t).loBuf = t.loBuf := rfl
@[simp] theorem latchCal_outX (s t : State) : (latchCal s t).outX = t.outX := rfl
@[simp] theorem latchCal_outY (s t : State) : (latchCal s t).outY = t.outY := rfl
@[simp] theorem latchCal_offX (s t : State) : (latchCal s t).offX = t.offX := rfl
@[simp] theorem latchCal_offY (s t : State) : (latchCal s t).offY = t.offY := rfl
@[simp] theorem latchCal_hcnt (s t : State) : (latchCal s t).hcnt = t.hcnt := rfl
@[simp] theorem latchCal_ind (s t : State) : (latchCal s t).ind = t.ind := rfl
@[simp] theorem latchCal_tickPend (s t : State) : (latchCal s t).tickPend = t.tickPend := rfl
@[simp] theorem latchCal_calPend (s t : State) : (latchCal s t).calPend = (t.calPend || calEdge s.cfg.calEdge s.calPrev s.now.calIn) := rfl
@[simp] theorem latchCal_calPrev (s t : State) : (latchCal s t).calPrev = s.now.calIn := rfl
@[simp] theorem latchCal_phase (s t : State) : (latchCal s t).phase = t.phase := rfl
@[simp] theorem latchCal_bstep (s t : State) : (latchCal s t).bstep = t.bstep := rfl
@[simp] theorem latchCal_csN (s t : State) : (latchCal s t).csN = t.csN := rfl
@[simp] theorem latchCal_busTx (s t : State) : (latchCal s t).busTx = t.busTx := rfl
@[simp] theorem latchCal_busGo (s t : State) : (latchCal s t).busGo = t.busGo := rfl
@[simp] theorem latchCal_faults (s t : State) : (latchCal s t).faults = t.faults := rfl
@[simp] theorem latchCal_stuck (s t : State) : (latchCal s t).stuck = t.stuck := rfl
@[simp] theorem latchCal_history (s t : State) : (latchCal s t).history = t.history := rfl
@[simp] theorem latchCal_script (s t : State) : (latchCal s t).script = t.script := rfl
@[simp] theorem latchCal_draws (s t : State) : (latchCal s t).draws = t.draws := rfl
@[simp] theorem latchCal_level (s t : State) : (latchCal s t).level = t.level := rfl

/-! ### State.dropInput: the script entry spent -/

@[simp] theorem State.dropInput_cfg (s : State) : (s.dropInput).cfg = s.cfg := rfl
@[simp] theorem State.dropInput_sx (s : State) : (s.dropInput).sx = s.sx := rfl
@[simp] theorem State.dropInput_sy (s : State) : (s.dropInput).sy = s.sy := rfl
@[simp] theorem State.dropInput_sz (s : State) : (s.dropInput).sz = s.sz := rfl
@[simp] theorem State.dropInput_loBuf (s : State) : (s.dropInput).loBuf = s.loBuf := rfl
@[simp] theorem State.dropInput_outX (s : State) : (s.dropInput).outX = s.outX := rfl
@[simp] theorem State.dropInput_outY (s : State) : (s.dropInput).outY = s.outY := rfl
@[simp] theorem State.dropInput_offX (s : State) : (s.dropInput).offX = s.offX := rfl
@[simp] theorem State.dropInput_offY (s : State) : (s.dropInput).offY = s.offY := rfl
@[simp] theorem State.dropInput_hcnt (s : State) : (s.dropInput).hcnt = s.hcnt := rfl
@[simp] theorem State.dropInput_ind (s : State) : (s.dropInput).ind = s.ind := rfl
@[simp] theorem State.dropInput_tickPend (s : State) : (s.dropInput).tickPend = s.tickPend := rfl
@[simp] theorem State.dropInput_calPend (s : State) : (s.dropInput).calPend = s.calPend := rfl
@[simp] theorem State.dropInput_calPrev (s : State) : (s.dropInput).calPrev = s.calPrev := rfl
@[simp] theorem State.dropInput_phase (s : State) : (s.dropInput).phase = s.phase := rfl
@[simp] theorem State.dropInput_bstep (s : State) : (s.dropInput).bstep = s.bstep := rfl
@[simp] theorem State.dropInput_csN (s : State) : (s.dropInput).csN = s.csN := rfl
@[simp] theorem State.dropInput_busTx (s : State) : (s.dropInput).busTx = s.busTx := rfl
@[simp] theorem State.dropInput_busGo (s : State) : (s.dropInput).busGo = s.busGo := rfl
@[simp] theorem State.dropInput_faults (s : State) : (s.dropInput).faults = s.faults := rfl
@[simp] theorem State.dropInput_stuck (s : State) : (s.dropInput).stuck = s.stuck := rfl
@[simp] theorem State.dropInput_history (s : State) : (s.dropInput).history = s.history := rfl
@[simp] theorem State.dropInput_script (s : State) : (s.dropInput).script = s.script.tail := rfl
@[simp] theorem State.dropInput_draws (s : State) : (s.dropInput).draws = s.draws := rfl
@[simp] theorem State.dropInput_level (s : State) : (s.dropInput).level = s.level := rfl

/-! ### The history after the recording updates -/

@[simp] theorem State.commitOutputs_history (s : State) :
    s.commitOutputs.history = changes s s.commitOutputs ++ s.history := rfl

@[simp] theorem State.debounced_history (s : State) :
    s.debounced.history = changes s s.debounced ++ s.history := rfl

@[simp] theorem State.applyReset_history (s : State) :
    s.applyReset.history = changes s s.applyReset ++ s.history := rfl

/-! ### A latched TICK changes only tick_pend, or only the fault set -/

/-- OVERRUN_POLICY has one value, under which an overrun is recorded. -/
@[simp] theorem State.overrun_eq (s t : State) : s.overrun t = t.raise (.tickOverrun s.phase s.tickPend) := rfl
@[simp] theorem latchTick_cfg (s t : State) : (latchTick s t).cfg = t.cfg := by
  unfold latchTick; split <;> [skip; rfl]; split <;> rfl
@[simp] theorem latchTick_sx (s t : State) : (latchTick s t).sx = t.sx := by
  unfold latchTick; split <;> [skip; rfl]; split <;> rfl
@[simp] theorem latchTick_sy (s t : State) : (latchTick s t).sy = t.sy := by
  unfold latchTick; split <;> [skip; rfl]; split <;> rfl
@[simp] theorem latchTick_sz (s t : State) : (latchTick s t).sz = t.sz := by
  unfold latchTick; split <;> [skip; rfl]; split <;> rfl
@[simp] theorem latchTick_loBuf (s t : State) : (latchTick s t).loBuf = t.loBuf := by
  unfold latchTick; split <;> [skip; rfl]; split <;> rfl
@[simp] theorem latchTick_outX (s t : State) : (latchTick s t).outX = t.outX := by
  unfold latchTick; split <;> [skip; rfl]; split <;> rfl
@[simp] theorem latchTick_outY (s t : State) : (latchTick s t).outY = t.outY := by
  unfold latchTick; split <;> [skip; rfl]; split <;> rfl
@[simp] theorem latchTick_offX (s t : State) : (latchTick s t).offX = t.offX := by
  unfold latchTick; split <;> [skip; rfl]; split <;> rfl
@[simp] theorem latchTick_offY (s t : State) : (latchTick s t).offY = t.offY := by
  unfold latchTick; split <;> [skip; rfl]; split <;> rfl
@[simp] theorem latchTick_hcnt (s t : State) : (latchTick s t).hcnt = t.hcnt := by
  unfold latchTick; split <;> [skip; rfl]; split <;> rfl
@[simp] theorem latchTick_ind (s t : State) : (latchTick s t).ind = t.ind := by
  unfold latchTick; split <;> [skip; rfl]; split <;> rfl
@[simp] theorem latchTick_calPend (s t : State) : (latchTick s t).calPend = t.calPend := by
  unfold latchTick; split <;> [skip; rfl]; split <;> rfl
@[simp] theorem latchTick_calPrev (s t : State) : (latchTick s t).calPrev = t.calPrev := by
  unfold latchTick; split <;> [skip; rfl]; split <;> rfl
@[simp] theorem latchTick_phase (s t : State) : (latchTick s t).phase = t.phase := by
  unfold latchTick; split <;> [skip; rfl]; split <;> rfl
@[simp] theorem latchTick_bstep (s t : State) : (latchTick s t).bstep = t.bstep := by
  unfold latchTick; split <;> [skip; rfl]; split <;> rfl
@[simp] theorem latchTick_csN (s t : State) : (latchTick s t).csN = t.csN := by
  unfold latchTick; split <;> [skip; rfl]; split <;> rfl
@[simp] theorem latchTick_busTx (s t : State) : (latchTick s t).busTx = t.busTx := by
  unfold latchTick; split <;> [skip; rfl]; split <;> rfl
@[simp] theorem latchTick_busGo (s t : State) : (latchTick s t).busGo = t.busGo := by
  unfold latchTick; split <;> [skip; rfl]; split <;> rfl
@[simp] theorem latchTick_history (s t : State) : (latchTick s t).history = t.history := by
  unfold latchTick; split <;> [skip; rfl]; split <;> rfl
@[simp] theorem latchTick_script (s t : State) : (latchTick s t).script = t.script := by
  unfold latchTick; split <;> [skip; rfl]; split <;> rfl
@[simp] theorem latchTick_draws (s t : State) : (latchTick s t).draws = t.draws := by
  unfold latchTick; split <;> [skip; rfl]; split <;> rfl

end Sys2Proof.Machine
end

