-- ==== Sys2Proof/Laws/Ops.lean ====
section
/-! SUPPORT. What each shared operation can do, said once, and the one inversion lemma of a step. -/

namespace Sys2Proof.Machine

/-! ### The fault set -/

theorem mem_insertFault (f g : Fault) (fs : List Fault) : g ∈ insertFault f fs ↔ g = f ∨ g ∈ fs := by
  unfold insertFault
  split <;> rename_i h
  · constructor
    · exact Or.inr
    · rintro (rfl | h')
      exacts [h, h']
  · simp

theorem nodup_insertFault (f : Fault) {fs : List Fault} (h : fs.Nodup) : (insertFault f fs).Nodup := by
  unfold insertFault
  split <;> rename_i hf
  exacts [h, List.nodup_cons.2 ⟨hf, h⟩]

/-! ### The reserved code of bstep -/

theorem unlessReserved_legal {s : State} (h : s.bstep ≠ BStep.reserved) (k : State → State) :
    unlessReserved s k = k s := if_neg h

theorem unlessReserved_reserved {s : State} (h : s.bstep = BStep.reserved) (k : State → State) :
    unlessReserved s k = s.raise (.reservedBStep s.bstep) := if_pos h

theorem inIdle_idle {s : State} (hb : s.bstep ≠ BStep.reserved) (hp : s.phase = Phase.idle) (k : State → State) :
    inIdle s k = k s := by
  rw [inIdle, unlessReserved_legal hb, if_pos hp]

theorem inIdle_busy {s : State} (hb : s.bstep ≠ BStep.reserved) (hp : s.phase ≠ Phase.idle) (k : State → State) :
    inIdle s k = s := by
  rw [inIdle, unlessReserved_legal hb, if_neg hp]

/-- Everything `inIdle` can do. -/
theorem inIdle_cases (s : State) (k : State → State) :
    (s.bstep = BStep.reserved ∧ inIdle s k = s.raise (.reservedBStep s.bstep)) ∨
      (s.bstep ≠ BStep.reserved ∧ s.phase = Phase.idle ∧ inIdle s k = k s) ∨
      (s.bstep ≠ BStep.reserved ∧ s.phase ≠ Phase.idle ∧ inIdle s k = s) := by
  by_cases hb : s.bstep = BStep.reserved
  · exact .inl ⟨hb, unlessReserved_reserved hb _⟩
  · by_cases hp : s.phase = Phase.idle
    · exact .inr (.inl ⟨hb, hp, inIdle_idle hb hp k⟩)
    · exact .inr (.inr ⟨hb, hp, inIdle_busy hb hp k⟩)

/-! ### The transaction -/

theorem transact_idle {s : State} (h : s.bstep = BStep.idle) (b0 b1 : Byte) :
    transact s b0 b1 = (s.issueAddress b0, none) := by simp [transact, h]

theorem transact_addr_done {s : State} (h : s.bstep = BStep.addr) (hd : s.now.busDone = true) (b0 b1 : Byte) :
    transact s b0 b1 = (s.issueData b1, none) := by simp [transact, h, hd]

theorem transact_addr_wait {s : State} (h : s.bstep = BStep.addr) (hd : s.now.busDone = false) (b0 b1 : Byte) :
    transact s b0 b1 = (s.holdBus, none) := by simp [transact, h, hd]

theorem transact_data_done {s : State} (h : s.bstep = BStep.data) (hd : s.now.busDone = true) (b0 b1 : Byte) :
    transact s b0 b1 = (s.completeBus b0 b1 s.now.busRx, some s.now.busRx) := by simp [transact, h, hd]

theorem transact_data_wait {s : State} (h : s.bstep = BStep.data) (hd : s.now.busDone = false) (b0 b1 : Byte) :
    transact s b0 b1 = (s.holdBus, none) := by simp [transact, h, hd]

theorem transact_reserved {s : State} (h : s.bstep = BStep.reserved) (b0 b1 : Byte) :
    transact s b0 b1 = (s.raise (.reservedBStep s.bstep), none) := by simp [transact, h]

/-- bstep has four codes. -/
theorem bstep_cases (b : BStepCode) : b = BStep.idle ∨ b = BStep.addr ∨ b = BStep.data ∨ b = BStep.reserved := by
  revert b; decide

/-- Everything one step of a transaction can do. -/
theorem transact_cases (s : State) (b0 b1 : Byte) :
    (s.bstep = BStep.idle ∧ transact s b0 b1 = (s.issueAddress b0, none)) ∨
      (s.bstep = BStep.addr ∧ s.now.busDone = true ∧ transact s b0 b1 = (s.issueData b1, none)) ∨
      (s.bstep = BStep.data ∧ s.now.busDone = true ∧
        transact s b0 b1 = (s.completeBus b0 b1 s.now.busRx, some s.now.busRx)) ∨
      ((s.bstep = BStep.addr ∨ s.bstep = BStep.data) ∧ s.now.busDone = false ∧
        transact s b0 b1 = (s.holdBus, none)) ∨
      (s.bstep = BStep.reserved ∧ transact s b0 b1 = (s.raise (.reservedBStep s.bstep), none)) := by
  rcases bstep_cases s.bstep with h | h | h | h
  · exact .inl ⟨h, transact_idle h ..⟩
  · cases hd : s.now.busDone
    · exact .inr (.inr (.inr (.inl ⟨.inl h, rfl, transact_addr_wait h hd ..⟩)))
    · exact .inr (.inl ⟨h, rfl, transact_addr_done h hd ..⟩)
  · cases hd : s.now.busDone
    · exact .inr (.inr (.inr (.inl ⟨.inr h, rfl, transact_data_wait h hd ..⟩)))
    · exact .inr (.inr (.inl ⟨h, rfl, transact_data_done h hd ..⟩))
  · exact .inr (.inr (.inr (.inr ⟨h, transact_reserved h ..⟩)))

@[simp] theorem onResult_none (t : State) (k : State → Byte → State) : onResult (t, none) k = t := rfl

@[simp] theorem onResult_some (t : State) (d : Byte) (k : State → Byte → State) :
    onResult (t, some d) k = k t d := rfl

/-! ### The meanings -/

@[simp] theorem exec_readReg (a : Addr) (d : Byte) (s : State) :
    exec (.readReg a d) s = .next (transact s (addressByte true a) d).1 := rfl
@[simp] theorem exec_writeReg (a : Addr) (v : Byte) (s : State) :
    exec (.writeReg a v) s = .next (transact s (addressByte false a) v).1 := rfl
@[simp] theorem exec_reset (c t : Bool) (s : State) : exec (.reset c t) s = .next s.applyReset := rfl
@[simp] theorem exec_tick (s : State) : exec .tick s = .next (inIdle s State.acceptTick) := rfl
@[simp] theorem exec_cal (s : State) : exec .cal s = .next (inIdle s State.acceptCal) := rfl
@[simp] theorem exec_tickCal (s : State) : exec .tickCal s = .next (inIdle s State.acceptBoth) := rfl
@[simp] theorem exec_initW1 (s : State) :
    exec .initW1 s = .next (writePhase s s.cfg.cfg1Addr s.cfg.cfg1Val Phase.initW2) := rfl
@[simp] theorem exec_initW2 (s : State) :
    exec .initW2 s = .next (writePhase s s.cfg.cfg2Addr s.cfg.cfg2Val Phase.idle) := rfl
@[simp] theorem exec_rdXL (s : State) :
    exec .rdXL s = .next (readPhase s s.cfg.addrXL (fun t d => t.takeLow d Phase.rdXH)) := rfl
@[simp] theorem exec_rdXH (s : State) : exec .rdXH s = .next (readPhase s s.cfg.addrXH State.takeHighX) := rfl
@[simp] theorem exec_rdYL (s : State) :
    exec .rdYL s = .next (readPhase s s.cfg.addrYL (fun t d => t.takeLow d Phase.rdYH)) := rfl
@[simp] theorem exec_rdYH (s : State) : exec .rdYH s = .next (readPhase s s.cfg.addrYH State.takeHighY) := rfl
@[simp] theorem exec_rdZL (s : State) :
    exec .rdZL s = .next (readPhase s s.cfg.addrZL (fun t d => t.takeLow d Phase.rdZH)) := rfl
@[simp] theorem exec_rdZH (s : State) : exec .rdZH s = .next (readPhase s s.cfg.addrZH State.takeHighZ) := rfl
@[simp] theorem exec_map (s : State) : exec .map s = .next (unlessReserved s State.commitOutputs) := rfl
@[simp] theorem exec_debounce (s : State) : exec .debounce s = .next (unlessReserved s State.debounced) := rfl
@[simp] theorem exec_calib (s : State) : exec .calib s = .next (unlessReserved s State.calibrated) := rfl
@[simp] theorem exec_reservedPhase (c : PhaseCode) (s : State) :
    exec (.reservedPhase c) s = .next (unlessReserved (s.raise (.reservedPhase c)) id) := rfl

/-- Phase IDLE takes what is pending, or nothing (60_exceptions.md R245). -/
theorem exec_idle_pending {s : State} (hb : s.bstep ≠ BStep.reserved) (hp : s.phase = Phase.idle) :
    exec .idle s = .next (match s.calPend, s.tickPend with
      | false, false => s
      | false, true => s.acceptTick
      | true, false => s.acceptCal
      | true, true => s.acceptBoth) :=
  congrArg Host.Outcome.next (inIdle_idle hb hp _)

/-- No instruction stops the machine: the block raises no exception (60_exceptions.md R250). -/
theorem exec_answers_next (i : Instr) (s : State) : ∃ t, exec i s = .next t := by
  cases i <;> exact ⟨_, rfl⟩

/-! ### One step -/

/-- Everything a step that answers a next state can have done: hold a stuck controller, or run the decoded
instruction and finish the step. -/
theorem step_next_cases {s t : State} (h : step s = .next t) :
    (∃ f, s.stuck = some f ∧ s.now.rst = false ∧ s.script ≠ [] ∧ t = s.dropInput) ∨
      (∃ i u, (s.stuck = none ∨ s.now.rst = true) ∧ s.fetch = .ok i ∧ exec i s = .next u ∧ t = finishStep s u) := by
  unfold step at h
  cases hb : heldBefore s with
  | some o =>
    simp only [hb] at h
    subst h
    unfold heldBefore at hb
    cases hr : s.now.rst with
    | true => simp [hr] at hb
    | false =>
      cases hs : s.stuck with
      | none => simp [hr, hs] at hb
      | some f =>
        cases hc : s.script with
        | nil => simp [hr, hs, hc] at hb
        | cons e es => exact .inl ⟨f, rfl, rfl, by simp, by simpa [hr, hs, hc] using hb.symm⟩
  | none =>
    simp only [hb] at h
    have hfree : s.stuck = none ∨ s.now.rst = true := by
      unfold heldBefore at hb
      cases hr : s.now.rst with
      | true => exact .inr rfl
      | false =>
        cases hs : s.stuck with
        | none => exact .inl rfl
        | some f => cases hc : s.script <;> simp [hr, hs, hc] at hb
    cases hf : s.fetch with
    | error e => simp [hf] at h
    | ok i =>
      obtain ⟨u, hu⟩ := exec_answers_next i s
      simp only [hf, hu, afterExec, Host.Outcome.next.injEq] at h
      exact .inr ⟨i, u, hfree, rfl, hu, h.symm⟩

/-- A step that is not held runs the instruction it fetches. -/
theorem step_of_fetch {s u : State} {i : Instr} (hs : s.stuck = none ∨ s.now.rst = true) (hf : s.fetch = .ok i)
    (hu : exec i s = .next u) : step s = .next (finishStep s u) := by
  have hb : heldBefore s = none := by
    unfold heldBefore
    rcases hs with h | h <;> simp [h]
  simp [step, hb, hf, hu, afterExec]

/-- The step's close when reset is asserted: no request is latched. -/
theorem finishStep_reset {s : State} (h : s.now.rst = true) (t : State) : finishStep s t = t.dropInput := by
  simp [finishStep, h]

/-- The step's close when reset is not asserted. -/
theorem finishStep_latch {s : State} (h : s.now.rst = false) (t : State) :
    finishStep s t = (latchCal s (latchTick s t)).dropInput := by simp [finishStep, h]

theorem latchTick_quiet {s : State} (h : s.now.tick = false) (t : State) : latchTick s t = t := by
  simp [latchTick, h]

theorem latchTick_overrun {s : State} (h : s.now.tick = true) (ho : s.tickOverruns = true) (t : State) :
    latchTick s t = t.raise (.tickOverrun s.phase s.tickPend) := by simp [latchTick, h, ho]

theorem latchTick_pend {s : State} (h : s.now.tick = true) (ho : s.tickOverruns = false) (t : State) :
    latchTick s t = { t with tickPend := true } := by simp [latchTick, h, ho]

/-! ### The comparators -/

theorem magGT_iff (s : Half) : magGT s = true ↔ s.toInt > 170 ∨ s.toInt < -170 := by
  rw [magGT, Bool.or_eq_true, decide_eq_true_iff, decide_eq_true_iff]
  rfl

theorem inBand_iff (o : Half) : inBand o = true ↔ 28672 < o.toNat ∧ o.toNat < 36864 := by
  rw [inBand, Bool.and_eq_true, decide_eq_true_iff, decide_eq_true_iff, centre, band]
  omega

end Sys2Proof.Machine
end

