-- ==== Sys2Proof/Laws/PerInstr.lean ====
section
/-! SUPPORT. What is proved of every instruction as syntax: the word the encoder gives it lies in its row of
spec/opcode_table.json, that is, it agrees with the row's match under the row's mask. -/

namespace Sys2Proof.Laws.TableRow

/-- An instruction's word, numbered as the table numbers it: a frame's address byte in bits 15:8. -/
def word (i : Instr) : Nat := (encode i).foldl (fun n b => n * 256 + b.toNat) 0

/-- The row's mask. -/
def mask : Instr → Nat
  | .readReg _ _ | .writeReg _ _ => 0x8000
  | .reset _ _ => 0b100
  | .tick | .cal | .tickCal => 0b111
  | .idle | .initW1 | .initW2 | .rdXL | .rdXH | .rdYL | .rdYH | .rdZL | .rdZH | .map | .debounce | .calib => 0xf
  | .reservedPhase _ => 0xc

/-- The row's match. -/
def bits : Instr → Nat
  | .readReg _ _ => 0x8000
  | .writeReg _ _ => 0x0000
  | .reset _ _ => 0b100
  | .tick => 0b001
  | .cal => 0b010
  | .tickCal => 0b011
  | .idle => 0x0
  | .initW1 => 0x1
  | .initW2 => 0x2
  | .rdXL => 0x3
  | .rdXH => 0x4
  | .rdYL => 0x5
  | .rdYH => 0x6
  | .rdZL => 0x7
  | .rdZH => 0x8
  | .map => 0x9
  | .debounce => 0xa
  | .calib => 0xb
  | .reservedPhase _ => 0xc

/-- The word of a well-formed instruction lies in its row. -/
def Statement (i : Instr) : Prop := i.WellFormed → word i &&& mask i = bits i

/-- Bit 15 of a two-byte word is bit 7 of its first byte. -/
theorem frame_bit (b0 b1 : Byte) : (b0.toNat * 256 + b1.toNat) &&& 0x8000 = (b0.toNat &&& 0x80) * 256 := by
  have h : ∀ x y : Nat, y < 256 → (x * 256 + y) &&& 0x8000 = (x &&& 0x80) * 256 := by
    intro x y hy
    apply Nat.eq_of_testBit_eq
    intro j
    rw [show x * 256 + y = 2 ^ 8 * x + y by omega, show (x &&& 0x80) * 256 = 2 ^ 8 * (x &&& 0x80) + 0 by omega,
      Nat.testBit_and, Nat.testBit_two_pow_mul_add _ (by simpa using hy), Nat.testBit_two_pow_mul_add _ (by simp),
      show (0x8000 : Nat) = 2 ^ 15 from rfl, Nat.testBit_and, show (0x80 : Nat) = 2 ^ 7 from rfl, Nat.testBit_two_pow,
      Nat.testBit_two_pow]
    by_cases hj : j < 8
    · simp [hj]; omega
    · simp only [hj, if_false]
      congr 1
      simp only [decide_eq_decide]
      omega
  exact h _ _ b1.isLt

theorem readReg (a : Addr) (d : Byte) : Statement (.readReg a d) := by
  intro _
  have h : ∀ a : Addr, (addressByte true a).toNat &&& 0x80 = 0x80 := by decide
  simp only [word, encode, mask, bits, List.foldl, Nat.zero_mul, Nat.zero_add]
  rw [frame_bit, h]

theorem writeReg (a : Addr) (v : Byte) : Statement (.writeReg a v) := by
  intro _
  have h : ∀ a : Addr, (addressByte false a).toNat &&& 0x80 = 0 := by decide
  simp only [word, encode, mask, bits, List.foldl, Nat.zero_mul, Nat.zero_add]
  rw [frame_bit, h]

theorem reset (c t : Bool) : Statement (.reset c t) := by
  intro _; revert c t; decide

theorem tick : Statement .tick := fun _ => by decide
theorem cal : Statement .cal := fun _ => by decide
theorem tickCal : Statement .tickCal := fun _ => by decide
theorem idle : Statement .idle := fun _ => by decide
theorem initW1 : Statement .initW1 := fun _ => by decide
theorem initW2 : Statement .initW2 := fun _ => by decide
theorem rdXL : Statement .rdXL := fun _ => by decide
theorem rdXH : Statement .rdXH := fun _ => by decide
theorem rdYL : Statement .rdYL := fun _ => by decide
theorem rdYH : Statement .rdYH := fun _ => by decide
theorem rdZL : Statement .rdZL := fun _ => by decide
theorem rdZH : Statement .rdZH := fun _ => by decide
theorem map : Statement .map := fun _ => by decide
theorem debounce : Statement .debounce := fun _ => by decide
theorem calib : Statement .calib := fun _ => by decide

theorem reservedPhase (code : PhaseCode) : Statement (.reservedPhase code) := by
  revert code; unfold Statement; decide

end Sys2Proof.Laws.TableRow
end

