-- ==== Sys2Proof/Laws/Step.lean ====
section
/-! SUPPORT. Everything one step can do, guards included, said once: every invariant of the machine is a case analysis
over `Move`. -/

namespace Sys2Proof.Machine

/-- The controller's own transition in a step without reset, from `s` to the given state. -/
inductive Move (s : State) : State → Prop where
  /-- A reserved code: faults are recorded and nothing else (30_encoding.md R80). -/
  | reserved (fs : List Fault) (f : Fault) (hr : s.bstep = BStep.reserved ∨ 12 ≤ s.phase.toNat)
      (hsub : ∀ g ∈ s.faults, g ∈ fs)
      (hnew : ∀ g ∈ fs, g ∈ s.faults ∨ g = .reservedPhase s.phase ∨ g = .reservedBStep s.bstep) :
      Move s { s with faults := fs, stuck := some f }
  /-- Nothing is pending in IDLE (60_exceptions.md R245). -/
  | wait (hp : s.phase = Phase.idle) (ht : s.tickPend = false) (hc : s.calPend = false) : Move s s
  /-- A tick is taken (60_exceptions.md R245, R246). -/
  | takeTick (n : Nat) (hp : s.phase = Phase.idle) (ht : s.tickPend = true) :
      Move s { s.acceptTick with draws := n }
  /-- A calibration is taken (60_exceptions.md R245, R246). -/
  | takeCal (n : Nat) (hp : s.phase = Phase.idle) (hc : s.calPend = true) :
      Move s { s.acceptCal with draws := n }
  /-- T0 of a bus phase (40_serial_protocol.md R104, R106). -/
  | issueAddress (b : Byte) (hp : busPhase s.phase = true) (hb : s.bstep = BStep.idle) : Move s (s.issueAddress b)
  /-- T1 of a bus phase. -/
  | issueData (b : Byte) (hp : busPhase s.phase = true) (hb : s.bstep = BStep.addr) (hd : s.now.busDone = true) :
      Move s (s.issueData b)
  /-- A wait for the bus (40_serial_protocol.md R103). -/
  | holdBus (hp : busPhase s.phase = true) (hb : s.bstep = BStep.addr ∨ s.bstep = BStep.data)
      (hd : s.now.busDone = false) : Move s s.holdBus
  /-- T2 of a startup write (46_scheduler.md R222). -/
  | write (b0 b1 : Byte) (p : PhaseCode) (hb : s.bstep = BStep.data) (hd : s.now.busDone = true)
      (hp : (s.phase = Phase.initW1 ∧ p = Phase.initW2) ∨ (s.phase = Phase.initW2 ∧ p = Phase.idle)) :
      Move s { s.completeBus b0 b1 s.now.busRx with phase := p }
  /-- T2 of a low-byte read (41_acquisition.md R122). -/
  | low (b0 b1 : Byte) (p : PhaseCode) (hb : s.bstep = BStep.data) (hd : s.now.busDone = true)
      (hp : (s.phase = Phase.rdXL ∧ p = Phase.rdXH) ∨ (s.phase = Phase.rdYL ∧ p = Phase.rdYH) ∨
        (s.phase = Phase.rdZL ∧ p = Phase.rdZH)) :
      Move s ((s.completeBus b0 b1 s.now.busRx).takeLow s.now.busRx p)
  /-- T2 of the x high-byte read (41_acquisition.md R123). -/
  | highX (b0 b1 : Byte) (hb : s.bstep = BStep.data) (hd : s.now.busDone = true) (hp : s.phase = Phase.rdXH) :
      Move s ((s.completeBus b0 b1 s.now.busRx).takeHighX s.now.busRx)
  /-- T2 of the y high-byte read. -/
  | highY (b0 b1 : Byte) (hb : s.bstep = BStep.data) (hd : s.now.busDone = true) (hp : s.phase = Phase.rdYH) :
      Move s ((s.completeBus b0 b1 s.now.busRx).takeHighY s.now.busRx)
  /-- T2 of the z high-byte read. -/
  | highZ (b0 b1 : Byte) (hb : s.bstep = BStep.data) (hd : s.now.busDone = true) (hp : s.phase = Phase.rdZH) :
      Move s ((s.completeBus b0 b1 s.now.busRx).takeHighZ s.now.busRx)
  /-- MAP (43_tilt_mapper.md R166). -/
  | map (hp : s.phase = Phase.map) : Move s s.commitOutputs
  /-- DEBOUNCE (45_level_debouncer.md R203). -/
  | debounce (hp : s.phase = Phase.debounce) : Move s s.debounced
  /-- CALIB (44_calibration.md R182). -/
  | calib (hp : s.phase = Phase.calib) : Move s s.calibrated

/-- The move of a state whose bstep holds the reserved code. -/
theorem Move.ofReservedBStep {s : State} (hb : s.bstep = BStep.reserved) :
    Move s (s.raise (.reservedBStep s.bstep)) :=
  .reserved _ _ (.inl hb) (fun _ hg => (mem_insertFault ..).2 (.inr hg))
    (fun _ hg => ((mem_insertFault ..).1 hg).elim (fun h => .inr (.inr h)) .inl)

/-- A bus phase moves as its transaction does: every case but T2 is one move, whatever the phase does at T2. -/
theorem Move.ofTransact {s : State} (hp : busPhase s.phase = true) (b0 b1 : Byte) (k : State → Byte → State)
    (hT2 : s.bstep = BStep.data → s.now.busDone = true → Move s (k (s.completeBus b0 b1 s.now.busRx) s.now.busRx)) :
    Move s (onResult (transact s b0 b1) k) := by
  rcases transact_cases s b0 b1 with ⟨hb, h⟩ | ⟨hb, hd, h⟩ | ⟨hb, hd, h⟩ | ⟨hb, hd, h⟩ | ⟨hb, h⟩ <;> rw [h]
  · exact .issueAddress b0 hp hb
  · exact .issueData b1 hp hb hd
  · exact hT2 hb hd
  · exact .holdBus hp hb hd
  · exact .ofReservedBStep hb

/-- A one-step phase moves by its write, unless bstep holds the reserved code. -/
theorem Move.ofUnlessReserved {s : State} {k : State → State} (hk : Move s (k s)) : Move s (unlessReserved s k) := by
  by_cases hb : s.bstep = BStep.reserved
  · rw [unlessReserved_reserved hb]; exact .ofReservedBStep hb
  · rwa [unlessReserved_legal hb]

/-- An event instruction moves by its acceptance, unless bstep holds the reserved code. -/
theorem Move.ofInIdle {s : State} {k : State → State} (hp : s.phase = Phase.idle) (hk : Move s (k s)) :
    Move s (inIdle s k) := by
  by_cases hb : s.bstep = BStep.reserved
  · rw [inIdle, unlessReserved_reserved hb]; exact .ofReservedBStep hb
  · rwa [inIdle_idle hb hp]

/-- The decoder's answer for a phase byte. -/
theorem decode_phaseByte : ∀ p : PhaseCode, decode .phase [phaseByte p] = .ok (decodePhase p, []) := by decide

/-- The decoder's answer for an event byte without reset. -/
theorem decode_eventByte : ∀ c t : Bool, (c || t) = true → decode .event [eventByte (eventVec false c t)] =
    .ok (if c then (if t then .tickCal else .cal) else .tick, []) := by decide

/-- What a phase code decodes to moves as `Move` says, in that phase. -/
theorem Move.ofPhase {s u : State} (hq : s.phase = Phase.idle → s.tickPend = false ∧ s.calPend = false)
    (h : exec (decodePhase s.phase) s = .next u) : Move s u := by
  have codes : ∀ p : PhaseCode, (p = Phase.idle ∨ p = Phase.initW1 ∨ p = Phase.initW2 ∨ p = Phase.rdXL ∨
      p = Phase.rdXH ∨ p = Phase.rdYL ∨ p = Phase.rdYH ∨ p = Phase.rdZL ∨ p = Phase.rdZH ∨ p = Phase.map ∨
      p = Phase.debounce ∨ p = Phase.calib) ∨ (12 ≤ p.toNat ∧ decodePhase p = .reservedPhase p) := by decide
  rcases codes s.phase with (hp | hp | hp | hp | hp | hp | hp | hp | hp | hp | hp | hp) | ⟨hp, hd⟩
  case inr =>
    rw [hd] at h
    cases h
    by_cases hb : s.bstep = BStep.reserved
    · rw [unlessReserved_reserved (by exact hb)]
      refine .reserved _ _ (.inl hb) (fun g hg => ?_) (fun g hg => ?_)
      · rw [mem_insertFault]; exact .inr ((mem_insertFault ..).2 (.inr hg))
      · rw [mem_insertFault] at hg
        rcases hg with rfl | hg
        · exact .inr (.inr rfl)
        · exact ((mem_insertFault ..).1 hg).elim (fun h => .inr (.inl h)) .inl
    · rw [unlessReserved_legal (by exact hb)]
      exact .reserved _ _ (.inr hp) (fun _ hg => (mem_insertFault ..).2 (.inr hg))
        (fun _ hg => ((mem_insertFault ..).1 hg).elim (fun h => .inr (.inl h)) .inl)
  all_goals rw [show decodePhase s.phase = _ from by rw [hp]] at h; cases h
  · obtain ⟨ht, hc⟩ := hq hp
    refine .ofInIdle hp ?_
    simpa only [ht, hc] using Move.wait hp ht hc
  · exact .ofTransact (by rw [hp]; rfl) _ _ _ fun hb hd => .write _ _ _ hb hd (.inl ⟨hp, rfl⟩)
  · exact .ofTransact (by rw [hp]; rfl) _ _ _ fun hb hd => .write _ _ _ hb hd (.inr ⟨hp, rfl⟩)
  · exact .ofTransact (by rw [hp]; rfl) _ _ _ fun hb hd => .low _ _ _ hb hd (.inl ⟨hp, rfl⟩)
  · exact .ofTransact (by rw [hp]; rfl) _ _ _ fun hb hd => .highX _ _ hb hd hp
  · exact .ofTransact (by rw [hp]; rfl) _ _ _ fun hb hd => .low _ _ _ hb hd (.inr (.inl ⟨hp, rfl⟩))
  · exact .ofTransact (by rw [hp]; rfl) _ _ _ fun hb hd => .highY _ _ hb hd hp
  · exact .ofTransact (by rw [hp]; rfl) _ _ _ fun hb hd => .low _ _ _ hb hd (.inr (.inr ⟨hp, rfl⟩))
  · exact .ofTransact (by rw [hp]; rfl) _ _ _ fun hb hd => .highZ _ _ hb hd hp
  · exact .ofUnlessReserved (.map hp)
  · exact .ofUnlessReserved (.debounce hp)
  · exact .ofUnlessReserved (.calib hp)

/-- Taking one of two pending requests is a move. -/
theorem Move.ofBoth {s : State} (hp : s.phase = Phase.idle) (ht : s.tickPend = true) (hc : s.calPend = true) :
    Move s s.acceptBoth := by
  unfold State.acceptBoth
  split
  · exact .takeCal _ hp hc
  · exact .takeTick _ hp ht

/-- A step without reset of a controller that is not stuck fetches an instruction, and that is a move. -/
theorem Move.ofFetch {s u : State} {i : Instr} (hr : s.now.rst = false) (hf : s.fetch = .ok i)
    (hu : exec i s = .next u) : Move s u := by
  unfold State.fetch State.fetchFormat State.fetchBytes State.fetchesEvent State.eventVector at hf
  by_cases hp : s.phase = Phase.idle
  · by_cases hq : (s.calPend || s.tickPend) = true
    · have he : (s.now.rst || (s.phase == Phase.idle && (s.calPend || s.tickPend))) = true := by
        rw [hr, hp, hq]; rfl
      rw [he, hr, if_pos rfl, if_pos rfl, decode_eventByte _ _ hq] at hf
      cases hf
      cases hc : s.calPend <;> cases ht : s.tickPend <;> simp only [hc, ht, if_true, Bool.false_eq_true, if_false] at hu
      · rw [hc, ht] at hq; exact absurd hq (by decide)
      · cases hu; exact .ofInIdle hp (.takeTick s.draws hp ht)
      · cases hu; exact .ofInIdle hp (.takeCal s.draws hp hc)
      · cases hu; exact .ofInIdle hp (.ofBoth hp ht hc)
    · have he : ¬ (s.now.rst || (s.phase == Phase.idle && (s.calPend || s.tickPend))) = true := by
        rw [hr, Bool.false_or, Bool.and_eq_true]; exact fun h => hq h.2
      rw [if_neg he, if_neg he, decode_phaseByte] at hf
      cases hf
      exact .ofPhase (fun _ => by simpa [and_comm] using hq) hu
  · have he : ¬ (s.now.rst || (s.phase == Phase.idle && (s.calPend || s.tickPend))) = true := by
      rw [hr, Bool.false_or, Bool.and_eq_true]; exact fun h => hp (by simpa using h.1)
    rw [if_neg he, if_neg he, decode_phaseByte] at hf
    cases hf
    exact .ofPhase (fun h => absurd h hp) hu

/-- The decoder's answer for an event byte with reset. -/
theorem decode_resetByte : ∀ c t : Bool, decode .event [eventByte (eventVec true c t)] = .ok (.reset c t, []) := by
  decide

/-- With rst = 1 the word fetched is RESET. -/
theorem fetch_reset {s : State} (hr : s.now.rst = true) : s.fetch = .ok (.reset s.calPend s.tickPend) := by
  unfold State.fetch State.fetchFormat State.fetchBytes State.fetchesEvent State.eventVector
  rw [hr, Bool.true_or, if_pos rfl, if_pos rfl, decode_resetByte]

/-- Everything a step that answers a next state can have done: reset, a stuck controller's hold, or one move with the
requests that arrived latched on top. -/
theorem step_cases {s t : State} (h : step s = .next t) :
    (s.now.rst = true ∧ t = s.applyReset.dropInput) ∨
      (s.now.rst = false ∧ (∃ f, s.stuck = some f) ∧ t = s.dropInput) ∨
      (s.now.rst = false ∧ s.stuck = none ∧ ∃ u, Move s u ∧ t = (latchCal s (latchTick s u)).dropInput) := by
  rcases step_next_cases h with ⟨f, hs, hr, -, rfl⟩ | ⟨i, u, hfree, hf, hu, rfl⟩
  · exact .inr (.inl ⟨hr, ⟨f, hs⟩, rfl⟩)
  · cases hr : s.now.rst with
    | true =>
      rw [fetch_reset hr] at hf
      cases hf
      cases hu
      exact .inl ⟨rfl, finishStep_reset hr _⟩
    | false =>
      have hs : s.stuck = none := hfree.resolve_right (by rw [hr]; decide)
      exact .inr (.inr ⟨rfl, hs, u, .ofFetch hr hf hu, finishStep_latch hr _⟩)

/-- A step answers a next state whenever the controller is not stuck. -/
theorem step_answers_next {s : State} (hs : s.stuck = none) : ∃ t, step s = .next t := by
  have hf : ∃ i, s.fetch = .ok i := by
    cases hr : s.now.rst with
    | true => exact ⟨_, fetch_reset hr⟩
    | false =>
      unfold State.fetch State.fetchFormat State.fetchBytes State.fetchesEvent State.eventVector
      rw [hr, Bool.false_or]
      by_cases he : (s.phase == Phase.idle && (s.calPend || s.tickPend)) = true
      · rw [if_pos he, if_pos he, decode_eventByte _ _ (Bool.and_eq_true _ _ ▸ he).2]
        exact ⟨_, rfl⟩
      · rw [if_neg he, if_neg he, decode_phaseByte]
        exact ⟨_, rfl⟩
  obtain ⟨i, hi⟩ := hf
  obtain ⟨u, hu⟩ := exec_answers_next i s
  exact ⟨_, step_of_fetch (.inl hs) hi hu⟩

end Sys2Proof.Machine
end

