-- ==== Sys2Proof/Laws/Run.lean ====
section
/-! SUPPORT. Stretches of a run: the word a phase fetches, a step in which nothing arrives, and the three steps of a
transaction whose exchanges complete at once. -/

namespace Sys2Proof.Machine

/-- Without reset, a phase that takes no event fetches itself (30_encoding.md R77). -/
theorem fetch_phase {s : State} (hr : s.now.rst = false)
    (hp : s.phase ≠ Phase.idle ∨ (s.calPend = false ∧ s.tickPend = false)) :
    s.fetch = .ok (decodePhase s.phase) := by
  unfold State.fetch State.fetchFormat State.fetchBytes State.fetchesEvent State.eventVector
  have he : ¬ (s.now.rst || (s.phase == Phase.idle && (s.calPend || s.tickPend))) = true := by
    rw [hr, Bool.false_or, Bool.and_eq_true]
    rintro ⟨h1, h2⟩
    rcases hp with h | ⟨h, h'⟩
    · exact h (by simpa using h1)
    · rw [h, h'] at h2; cases h2
  rw [if_neg he, if_neg he, decode_phaseByte]

/-- In IDLE with a tick alone pending, the word fetched is TICK. -/
theorem fetch_tick {s : State} (hr : s.now.rst = false) (hp : s.phase = Phase.idle) (hc : s.calPend = false)
    (ht : s.tickPend = true) : s.fetch = .ok .tick := by
  unfold State.fetch State.fetchFormat State.fetchBytes State.fetchesEvent State.eventVector
  rw [hr, hp, hc, ht]; rfl

/-- A level that stays is no edge. -/
theorem calEdge_self (k : Config.Edge) (p : Bool) : calEdge k p p = false := by cases k <;> cases p <;> rfl

/-- A step in which no request arrives is the phase's own meaning. -/
theorem step_quiet {s u : State} {e : Inputs} {rest : List Inputs} (hs : s.stuck = none) (hsc : s.script = e :: rest)
    (hr : e.rst = false) (ht : e.tick = false) (hl : e.calIn = s.calPrev)
    (hp : s.phase ≠ Phase.idle ∨ (s.calPend = false ∧ s.tickPend = false))
    (hu : exec (decodePhase s.phase) s = .next u) (huc : u.calPrev = s.calPrev) (hus : u.script = s.script) :
    step s = .next { u with script := rest } := by
  have hn : s.now = e := by simp [State.now, hsc]
  rw [step_of_fetch (.inl hs) (fetch_phase (by rw [hn]; exact hr) hp) hu, finishStep_latch (by rw [hn]; exact hr),
    latchTick_quiet (by rw [hn]; exact ht)]
  have : latchCal s u = u := by
    unfold latchCal
    rw [hn, hl, calEdge_self, Bool.or_false, ← huc]
  rw [this]
  unfold State.dropInput
  rw [hus, hsc]
  rfl

/-- Runs compose. -/
theorem steps_add (m n : Nat) (s t : State) (h : steps m s = .next t) : steps (m + n) s = steps n t := by
  induction m generalizing s with
  | zero => cases h; simp
  | succ m ih =>
    rw [show m + 1 + n = (m + n) + 1 by omega]
    simp only [steps] at h ⊢
    cases hs : step s with
    | next u => rw [hs] at h; exact ih u h
    | fault f => rw [hs] at h; cases h
    | refused r => rw [hs] at h; cases h

/-- `s` as it stands when the data byte `b` of the frame `b0`, `b1` is there, the transaction's own writes done. -/
def State.transacted (s : State) (b0 b1 b : Byte) (rest : List Inputs) : State :=
  { s with bstep := BStep.idle, csN := true, busGo := false, busTx := b1
           history := .transaction (b0.extractLsb' 0 7) b0 b1 b :: s.history
           script := doneInput s.calPrev b :: rest }

/-- `s` after T0. -/
def State.afterT0 (s : State) (b0 : Byte) (l : List Inputs) : State := { s.issueAddress b0 with script := l }

/-- `s` after T1. -/
def State.afterT1 (s : State) (b0 b1 : Byte) (l : List Inputs) : State :=
  { s.issueAddress b0 with busTx := b1, busGo := true, bstep := BStep.data, script := l }

/-- The three steps of a bus phase whose exchanges complete at once. -/
theorem steps_transaction {s : State} (b0 b1 junk b : Byte) (k : State → Byte → State) (rest : List Inputs)
    (hs : s.stuck = none) (hb : s.bstep = BStep.idle) (hp : s.phase ≠ Phase.idle)
    (hsc : s.script = transactionScript s.calPrev junk b ++ rest)
    (hx : ∀ t : State, t.phase = s.phase → t.cfg = s.cfg →
      exec (decodePhase t.phase) t = .next (onResult (transact t b0 b1) k))
    (hk : ∀ t d, (k t d).calPrev = t.calPrev ∧ (k t d).script = t.script) :
    steps 3 s = .next { k (s.transacted b0 b1 b rest) b with script := rest } := by
  have e1 : step s = .next (s.afterT0 b0 (doneInput s.calPrev junk :: doneInput s.calPrev b :: rest)) := by
    apply step_quiet hs hsc rfl rfl rfl (.inl hp)
    · rw [hx s rfl rfl, transact_idle hb]; rfl
    · rfl
    · rfl
  have e2 : step (s.afterT0 b0 (doneInput s.calPrev junk :: doneInput s.calPrev b :: rest)) =
      .next (s.afterT1 b0 b1 (doneInput s.calPrev b :: rest)) := by
    have h := hx (s.afterT0 b0 (doneInput s.calPrev junk :: doneInput s.calPrev b :: rest)) rfl rfl
    rw [transact_addr_done (s := s.afterT0 b0 (doneInput s.calPrev junk :: doneInput s.calPrev b :: rest)) rfl rfl] at h
    exact step_quiet (s := s.afterT0 b0 (doneInput s.calPrev junk :: doneInput s.calPrev b :: rest))
      (e := doneInput s.calPrev junk) hs rfl rfl rfl rfl (.inl hp) h rfl rfl
  have e3 : step (s.afterT1 b0 b1 (doneInput s.calPrev b :: rest)) =
      .next { k (s.transacted b0 b1 b rest) b with script := rest } := by
    have h := hx (s.afterT1 b0 b1 (doneInput s.calPrev b :: rest)) rfl rfl
    rw [transact_data_done (s := s.afterT1 b0 b1 (doneInput s.calPrev b :: rest)) rfl rfl] at h
    refine step_quiet (s := s.afterT1 b0 b1 (doneInput s.calPrev b :: rest)) (e := doneInput s.calPrev b)
      (u := k (s.transacted b0 b1 b rest) b) hs rfl rfl rfl rfl (.inl hp) h ?_ ?_
    · rw [(hk _ _).1]; rfl
    · rw [(hk _ _).2]; rfl
  simp only [steps, e1, e2, e3]

end Sys2Proof.Machine
end

