-- ==== Sys2Proof/Laws/Surroundings.lean ====
section
/-! SUPPORT. What lies beside the block is no memory of it (00_scope.md R19): an instruction writes neither the
configuration nor the script, and of the script it reads only what the ports carry in its own step. -/

namespace Sys2Proof.Machine

/-- `s` with another script. -/
def State.withScript (s : State) (l : List Inputs) : State := { s with script := l }

@[simp] theorem State.withScript_toBlock (s : State) (l : List Inputs) : (s.withScript l).toBlock = s.toBlock := rfl
@[simp] theorem State.withScript_cfg (s : State) (l : List Inputs) : (s.withScript l).cfg = s.cfg := rfl
@[simp] theorem State.withScript_draws (s : State) (l : List Inputs) : (s.withScript l).draws = s.draws := rfl
@[simp] theorem State.withScript_script (s : State) (l : List Inputs) : (s.withScript l).script = l := rfl

/-- A transaction reads the ports of this step, not the script. -/
theorem transact_withScript {s : State} {l : List Inputs} (h : (s.withScript l).now = s.now) (b0 b1 : Byte) :
    transact (s.withScript l) b0 b1 = ((transact s b0 b1).1.withScript l, (transact s b0 b1).2) := by
  rcases transact_cases s b0 b1 with ⟨a, e⟩ | ⟨a, b, e⟩ | ⟨a, b, e⟩ | ⟨a, b, e⟩ | ⟨a, e⟩ <;> rw [e]
  · exact transact_idle (s := s.withScript l) a ..
  · exact transact_addr_done (s := s.withScript l) a (by rw [h]; exact b) ..
  · rw [transact_data_done (s := s.withScript l) a (by rw [h]; exact b), h]; rfl
  · rcases a with a | a
    · exact transact_addr_wait (s := s.withScript l) a (by rw [h]; exact b) ..
    · exact transact_data_wait (s := s.withScript l) a (by rw [h]; exact b) ..
  · exact transact_reserved (s := s.withScript l) a ..

/-- So does a bus phase, if what it does with the result leaves the script alone. -/
theorem onResult_withScript {s : State} {l : List Inputs} (h : (s.withScript l).now = s.now) (b0 b1 : Byte)
    (k : State → Byte → State) (hk : ∀ t d, k (t.withScript l) d = (k t d).withScript l) :
    onResult (transact (s.withScript l) b0 b1) k = (onResult (transact s b0 b1) k).withScript l := by
  rw [transact_withScript h]
  unfold onResult
  cases (transact s b0 b1).2 with
  | none => rfl
  | some d => exact hk _ d

theorem unlessReserved_withScript (s : State) (l : List Inputs) {k : State → State}
    (hk : k (s.withScript l) = (k s).withScript l) :
    unlessReserved (s.withScript l) k = (unlessReserved s k).withScript l := by
  by_cases hb : s.bstep = BStep.reserved
  · rw [unlessReserved_reserved hb, unlessReserved_reserved (s := s.withScript l) hb]; rfl
  · rw [unlessReserved_legal hb, unlessReserved_legal (s := s.withScript l) hb, hk]

theorem inIdle_withScript (s : State) (l : List Inputs) {k : State → State}
    (hk : k (s.withScript l) = (k s).withScript l) : inIdle (s.withScript l) k = (inIdle s k).withScript l := by
  refine unlessReserved_withScript s l ?_
  by_cases hp : s.phase = Phase.idle
  · rw [if_pos hp, if_pos (show (s.withScript l).phase = Phase.idle from hp), hk]
  · rw [if_neg hp, if_neg (show ¬ (s.withScript l).phase = Phase.idle from hp)]

theorem acceptBoth_withScript {s : State} {l : List Inputs} (h : (s.withScript l).now = s.now) :
    (s.withScript l).acceptBoth = s.acceptBoth.withScript l := by
  have hg : (s.withScript l).calGoesFirst = s.calGoesFirst := by
    unfold State.calGoesFirst
    rw [h]
    rfl
  unfold State.acceptBoth
  rw [hg]
  split <;> rfl

/-- Under every instruction, two states that differ only in their scripts, and whose ports carry the same in this step,
go to the same registers, and each keeps its script. -/
theorem exec_withScript (i : Instr) {s u : State} {l : List Inputs} (h : (s.withScript l).now = s.now)
    (hu : exec i s = .next u) : exec i (s.withScript l) = .next (u.withScript l) := by
  cases i <;> cases hu
  case readReg a d => exact congrArg Host.Outcome.next (congrArg Prod.fst (transact_withScript h _ _))
  case writeReg a v => exact congrArg Host.Outcome.next (congrArg Prod.fst (transact_withScript h _ _))
  case reset =>
    show Host.Outcome.next (State.applyReset _) = _
    unfold State.applyReset State.resetRegs
    rw [h]
    rfl
  case tick => exact congrArg Host.Outcome.next (inIdle_withScript s l rfl)
  case cal => exact congrArg Host.Outcome.next (inIdle_withScript s l rfl)
  case tickCal => exact congrArg Host.Outcome.next (inIdle_withScript s l (acceptBoth_withScript h))
  case idle =>
    refine congrArg Host.Outcome.next (inIdle_withScript s l ?_)
    rw [show (s.withScript l).calPend = s.calPend from rfl, show (s.withScript l).tickPend = s.tickPend from rfl]
    cases s.calPend <;> cases s.tickPend
    exacts [rfl, rfl, rfl, acceptBoth_withScript h]
  case map => exact congrArg Host.Outcome.next (unlessReserved_withScript s l rfl)
  case debounce => exact congrArg Host.Outcome.next (unlessReserved_withScript s l rfl)
  case calib => exact congrArg Host.Outcome.next (unlessReserved_withScript s l rfl)
  case reservedPhase c =>
    exact congrArg Host.Outcome.next (unlessReserved_withScript (s.raise (.reservedPhase c)) l rfl)
  all_goals exact congrArg Host.Outcome.next (onResult_withScript h _ _ _ fun _ _ => rfl)

end Sys2Proof.Machine
end

