-- ==== Sys2Proof/Tests/Slice0.lean ====
section
/-! SUPPORT. The model's own tests. The expected values are those of 95_test_vectors.md and of the examples in the rules,
or words written out bit by bit from 30_encoding.md. After the tests, one witness for each statement that has
hypotheses: a concrete state and operands that meet all of them. -/

namespace Sys2Proof.Tests

open Sys2Proof.Machine

/-! ### Small states -/

/-- The example parameter values of 95_test_vectors.md. -/
def params : Config.Params where
  addrXL := 0x32
  addrXH := 0x33
  addrYL := 0x34
  addrYH := 0x35
  addrZL := 0x36
  addrZH := 0x37
  cfg1Addr := 0x2D
  cfg1Val := 0x08
  cfg2Addr := 0x31
  cfg2Val := 0x00
  readDummy := 0x00
  outResetX := 0x8000
  outResetY := 0x8000
  calEdge := .rising
  ledActiveLevel := .low
  arbOrder := .tickFirst
  electrical := default

/-- A block in phase `p` and controller step `b`, just after reset otherwise. -/
def at' (p : PhaseCode) (b : BStepCode) : State :=
  { State.resetWith params with phase := p, bstep := b, csN := b == BStep.idle }

/-- A block at rest in IDLE. -/
def rest : State := at' Phase.idle BStep.idle

/-- The ports of one step. -/
def ports (rst tick calIn busDone : Bool) (rx : Byte) : Inputs :=
  { rst, tick, calIn, busDone, busRx := rx, calFirst := false }

/-- `s` with the ports of its next step. -/
def State.given (s : State) (e : Inputs) : State := { s with script := [e] }

/-- The bus agent's completion with byte `rx`. -/
def doneWith (rx : Byte) : Inputs := ports false false false true rx

/-- The next state meets `p`. -/
def got (o : Host.Outcome State Fault Refusal) (p : State → Bool) : Bool :=
  match o with
  | .next t => p t
  | .fault _ => false
  | .refused _ => false

/-- The machine stops with the fault `f`. -/
def stops (o : Host.Outcome State Fault Refusal) (f : Fault) : Bool :=
  match o with
  | .next _ => false
  | .fault g => f == g
  | .refused _ => false

/-- A block with the samples (x, y, z) and the offsets (a, b), in phase MAP. -/
def tilted (x y z a b : Int) : State :=
  { at' Phase.map BStep.idle with
    sx := BitVec.ofInt 16 x, sy := BitVec.ofInt 16 y, sz := BitVec.ofInt 16 z
    offX := BitVec.ofInt 16 a, offY := BitVec.ofInt 16 b }

/-- A block with the outputs (x, y), counter `h` and indicator `i`. -/
def shown (x y : Nat) (h : Byte) (i : Bool) : State :=
  { at' Phase.debounce BStep.idle with outX := BitVec.ofNat 16 x, outY := BitVec.ofNat 16 y, hcnt := h, ind := i }

/-! ### Well-formedness and configurations -/

theorem test_reserved_code_well_formed : (Instr.reservedPhase 0xC).WellFormed ∧ (Instr.reservedPhase 0xF).WellFormed := by
  decide
theorem test_named_code_is_not_reserved : ¬ (Instr.reservedPhase 0x3).WellFormed ∧ ¬ (Instr.reservedPhase 0xB).WellFormed := by
  decide

/-- The example configuration before its domains are checked. -/
def raw : Config.RawParams where
  addrXL := 0x32
  addrXH := 0x33
  addrYL := 0x34
  addrYH := 0x35
  addrZL := 0x36
  addrZH := 0x37
  cfg1Addr := 0x2D
  cfg1Val := 0x08
  cfg2Addr := 0x31
  cfg2Val := 0x00
  readDummy := 0x00
  outResetX := 0x8000
  outResetY := 0x8000
  calEdge := .rising
  ledActiveLevel := .low
  arbOrder := .tickFirst
  clkPolarity := false
  clkPhase := false
  bitOrder := .msbFirst
  busClk := 0
  csSetup := 0
  csHold := 0
  csIdleMin := 0
  tickPeriod := 1
  pwmPeriod := 0

/-- The configuration is refused for this reason. -/
def refusedFor (r : Config.RawParams) (e : ConfigRefusal) : Bool :=
  match configure r with
  | .ok _ => false
  | .error e' => e == e'

theorem test_configuration_accepted : (match configure raw with | .ok p => p.addrZH == 0x37 | .error _ => false) = true := by
  decide
theorem test_configuration_largest_address :
    (match configure { raw with addrXL := 0x7F } with | .ok p => p.addrXL == 0x7F | .error _ => false) = true := by decide
theorem test_configuration_address_too_wide : refusedFor { raw with addrXL := 0x80 } (.addressTooWide 0x80) = true := by
  decide
theorem test_configuration_byte_too_wide : refusedFor { raw with cfg2Val := 0x100 } (.byteTooWide 0x100) = true := by
  decide
theorem test_configuration_half_too_wide : refusedFor { raw with outResetY := 65536 } (.halfTooWide 65536) = true := by
  decide
theorem test_configuration_tick_period : refusedFor { raw with tickPeriod := 0 } .tickPeriodZero = true := by decide

theorem test_arbitration_defaults_to_any : State.reset.cfg.arbOrder = .any ∧ (default : Config.ArbOrder) = .any := ⟨rfl, rfl⟩

/-! ### Decoding words written out from 30_encoding.md -/

theorem test_decode_readReg : decodeTableWord 16 0b1011001000000000 = some (.readReg 0x32 0x00) := by decide
theorem test_decode_readReg_dummy : decodeTableWord 16 0b1011011111111111 = some (.readReg 0x37 0xFF) := by decide
theorem test_decode_writeReg : decodeTableWord 16 0b0010110100001000 = some (.writeReg 0x2D 0x08) := by decide
theorem test_decode_writeReg_zero : decodeTableWord 16 0b0000000000000000 = some (.writeReg 0x00 0x00) := by decide
theorem test_decode_reset : decodeTableWord 3 0b110 = some (.reset true false) := by decide
theorem test_decode_tick : decodeTableWord 3 0b001 = some .tick := by decide
theorem test_decode_cal : decodeTableWord 3 0b010 = some .cal := by decide
theorem test_decode_tickCal : decodeTableWord 3 0b011 = some .tickCal := by decide
theorem test_decode_no_event : decodeTableWord 3 0b000 = none := by decide
theorem test_decode_idle : decodeTableWord 4 0b0000 = some .idle := by decide
theorem test_decode_initW1 : decodeTableWord 4 0b0001 = some .initW1 := by decide
theorem test_decode_initW2 : decodeTableWord 4 0b0010 = some .initW2 := by decide
theorem test_decode_rdXL : decodeTableWord 4 0b0011 = some .rdXL := by decide
theorem test_decode_rdXH : decodeTableWord 4 0b0100 = some .rdXH := by decide
theorem test_decode_rdYL : decodeTableWord 4 0b0101 = some .rdYL := by decide
theorem test_decode_rdYH : decodeTableWord 4 0b0110 = some .rdYH := by decide
theorem test_decode_rdZL : decodeTableWord 4 0b0111 = some .rdZL := by decide
theorem test_decode_rdZH : decodeTableWord 4 0b1000 = some .rdZH := by decide
theorem test_decode_map : decodeTableWord 4 0b1001 = some .map := by decide
theorem test_decode_debounce : decodeTableWord 4 0b1010 = some .debounce := by decide
theorem test_decode_calib : decodeTableWord 4 0b1011 = some .calib := by decide
theorem test_decode_reservedPhase : decodeTableWord 4 0b1101 = some (.reservedPhase 0xD) := by decide
theorem test_decode_phase_high_bits : decodeTableWord 8 0b00011101 = none := by decide
theorem test_decode_event_high_bits : decodeTableWord 3 0b1001 = none := by decide
theorem test_decode_truncated_frame : (match decode .frame [0xB2] with
    | .ok _ => false | .error e => e == .truncated .frame) = true := by decide

/-! ### The bus: 95_test_vectors.md 2.1 -/

theorem test_readReg_issues_address :
    got (exec (.readReg 0x32 0x00) (at' Phase.rdXL BStep.idle)) (fun t =>
      t.csN == false && t.busTx == 0xB2 && t.busGo && t.bstep == BStep.addr) = true := by decide
theorem test_readReg_result_is_second_byte :
    got (exec (.readReg 0x32 0x00) (State.given (at' Phase.rdXL BStep.data) (doneWith 0x3C))) (fun t =>
      t.csN && t.busGo == false && t.bstep == BStep.idle && t.history == [.transaction 0x32 0xB2 0x00 0x3C]) = true := by
  decide
theorem test_writeReg_issues_address :
    got (exec (.writeReg 0x7F 0xFF) (at' Phase.initW1 BStep.idle)) (fun t => t.busTx == 0x7F && t.csN == false) = true := by
  decide
theorem test_writeReg_issues_value :
    got (exec (.writeReg 0x2D 0x08) (State.given (at' Phase.initW1 BStep.addr) (doneWith 0x5A))) (fun t =>
      t.busTx == 0x08 && t.bstep == BStep.data && t.busGo && t.csN == false) = true := by decide
theorem test_initW1_completes :
    got (exec .initW1 (State.given (at' Phase.initW1 BStep.data) (doneWith 0))) (fun t =>
      t.phase == Phase.initW2 && t.history == [.transaction 0x2D 0x2D 0x08 0]) = true := by decide
theorem test_initW2_completes :
    got (exec .initW2 (State.given (at' Phase.initW2 BStep.data) (doneWith 0))) (fun t =>
      t.phase == Phase.idle && t.history == [.transaction 0x31 0x31 0x00 0]) = true := by decide
theorem test_hang_holds_chip_select :
    got (step (State.given (at' Phase.initW1 BStep.addr) (ports false false false false 0))) (fun t =>
      t.csN == false && t.bstep == BStep.addr && t.busGo == false && t.phase == Phase.initW1) = true := by decide

/-! ### Acquisition: 95_test_vectors.md 2.2 -/

theorem test_rdXL_keeps_byte :
    got (exec .rdXL (State.given (at' Phase.rdXL BStep.data) (doneWith 0xF4))) (fun t =>
      t.loBuf == 0xF4 && t.phase == Phase.rdXH) = true := by decide
theorem test_rdXH_assembles :
    got (exec .rdXH (State.given { at' Phase.rdXH BStep.data with loBuf := 0xF4 } (doneWith 0x01))) (fun t =>
      t.sx.toInt == 500 && t.phase == Phase.rdYL) = true := by decide
theorem test_rdYL_keeps_byte :
    got (exec .rdYL (State.given (at' Phase.rdYL BStep.data) (doneWith 0xEC))) (fun t =>
      t.loBuf == 0xEC && t.phase == Phase.rdYH) = true := by decide
theorem test_rdYH_assembles :
    got (exec .rdYH (State.given { at' Phase.rdYH BStep.data with loBuf := 0xEC } (doneWith 0xFF))) (fun t =>
      t.sy.toInt == -20 && t.phase == Phase.rdZL) = true := by decide
theorem test_rdZL_keeps_byte :
    got (exec .rdZL (State.given (at' Phase.rdZL BStep.data) (doneWith 0x80))) (fun t =>
      t.loBuf == 0x80 && t.phase == Phase.rdZH) = true := by decide
theorem test_rdZH_assembles :
    got (exec .rdZH (State.given { at' Phase.rdZH BStep.data with loBuf := 0x80 } (doneWith 0x00))) (fun t =>
      t.sz.toInt == 128 && t.phase == Phase.map) = true := by decide
theorem test_assemble_extremes : (assemble 0x00 0x80).toInt = -32768 ∧ (assemble 0xFF 0x7F).toInt = 32767 := by decide

/-! ### Orientation and mapping: 95_test_vectors.md 2.3, 2.4 -/

/-- The orientation of three integers. -/
def orientInt (x y z : Int) : Orient := orientOf (BitVec.ofInt 16 x) (BitVec.ofInt 16 y) (BitVec.ofInt 16 z)

theorem test_orient_tolerance : orientInt 0 0 170 = .neutral ∧ orientInt 0 0 171 = .flat ∧ orientInt 0 0 (-170) = .neutral ∧
    orientInt 0 0 (-171) = .flat := by decide
theorem test_orient_priority : orientInt 171 171 171 = .flat ∧ orientInt 171 171 0 = .rolled ∧ orientInt 0 171 0 = .pitched ∧
    orientInt 170 (-170) 170 = .neutral ∧ orientInt (-32768) 0 0 = .rolled := by decide
theorem test_orient_codes : [Orient.flat, .rolled, .pitched, .neutral].map orientCode = [0b00, 0b01, 0b10, 0b11] := by
  decide
theorem test_negation_corners : neg16 0x8000 = 0x8000 ∧ neg16 0x7FFF = 0x8001 ∧ neg16 1 = 0xFFFF ∧ neg16 0 = 0 := by decide
theorem test_map_wraps :
    got (exec .map (tilted 500 0 200 0 0)) (fun t =>
      t.outX == 1696 && t.outY == 32768 && t.phase == Phase.debounce) = true := by decide
theorem test_map_neutral_ignores_offset :
    got (exec .map (tilted 100 100 100 (-32768) 1)) (fun t => t.outX == 32768 && t.outY == 32768) = true := by decide
theorem test_map_pairs :
    mapOutputs (BitVec.ofInt 16 200) (BitVec.ofInt 16 (-300)) 100 0 0 = (52768, 27232) ∧
      mapOutputs 7 300 (BitVec.ofInt 16 (-50)) 0 0 = (34168, 42768) ∧
      mapOutputs (BitVec.ofInt 16 (-100)) 50 (BitVec.ofInt 16 (-200)) 300 (BitVec.ofInt 16 (-300)) = (12468, 23068) := by
  decide

/-! ### The debouncer: 95_test_vectors.md 2.6 -/

theorem test_band_boundary : [28672, 28673, 36863, 36864, 0, 65535].map (fun n => inBand (BitVec.ofNat 16 n)) =
    [false, true, true, false, false, false] := by decide
theorem test_debounce_fires :
    got (exec .debounce (shown 32768 32768 1 false)) (fun t => t.ind && t.hcnt == 100 && t.phase == Phase.idle) = true := by
  decide
theorem test_debounce_off_at_once :
    got (exec .debounce (shown 36968 32768 37 true)) (fun t => t.ind == false && t.hcnt == 100) = true := by decide

/-! ### Calibration: 95_test_vectors.md 2.5 -/

theorem test_calib_adds :
    got (exec .calib { shown 34768 36768 100 false with phase := Phase.calib }) (fun t =>
      t.offX == 2000 && t.offY == 4000 && t.outX == 34768 && t.phase == Phase.idle) = true := by decide
theorem test_calib_wraps :
    got (exec .calib { shown 32769 0 100 false with phase := Phase.calib, offX := 0x7FFF, offY := 0x8000 }) (fun t =>
      t.offX == 0x8000 && t.offY == 0) = true := by decide

/-! ### Events: 95_test_vectors.md 2.7 -/

theorem test_tick_taken :
    got (exec .tick { rest with tickPend := true }) (fun t =>
      t.tickPend == false && t.phase == Phase.rdXL && t.history == [.tickTaken]) = true := by decide
theorem test_cal_taken :
    got (exec .cal { rest with calPend := true }) (fun t =>
      t.calPend == false && t.phase == Phase.calib && t.history == [.calTaken]) = true := by decide
theorem test_tickCal_tick_first :
    got (exec .tickCal { rest with tickPend := true, calPend := true }) (fun t =>
      t.phase == Phase.rdXL && t.calPend && t.tickPend == false) = true := by decide
theorem test_tickCal_cal_first :
    got (exec .tickCal { rest with tickPend := true, calPend := true, cfg := { params with arbOrder := .calFirst } })
      (fun t => t.phase == Phase.calib && t.tickPend && t.calPend == false) = true := by decide
theorem test_idle_waits : got (exec .idle rest) (fun t => t == rest) = true := by decide
theorem test_idle_takes_tick :
    got (exec .idle { rest with tickPend := true }) (fun t => t.phase == Phase.rdXL) = true := by decide
theorem test_step_latches_tick_in_idle :
    got (step (State.given rest (ports false true false false 0))) (fun t =>
      t.tickPend && t.phase == Phase.idle && t.stuck == none) = true := by decide
theorem test_step_overrun_in_rdYL :
    got (step (State.given (at' Phase.rdYL BStep.idle) (ports false true false false 0))) (fun t =>
      t.faults == [.tickOverrun Phase.rdYL false] && t.stuck == some (.tickOverrun Phase.rdYL false)) = true := by decide
theorem test_step_tick_in_calib_is_latched :
    got (step (State.given (at' Phase.calib BStep.idle) (ports false true false false 0))) (fun t =>
      t.tickPend && t.stuck == none && t.phase == Phase.idle) = true := by decide
theorem test_step_second_tick_in_init_overruns :
    got (step (State.given { at' Phase.initW1 BStep.idle with tickPend := true } (ports false true false false 0)))
      (fun t => t.faults == [.tickOverrun Phase.initW1 true]) = true := by decide
theorem test_step_cal_set_wins :
    got (step (State.given { rest with calPend := true } (ports false false true false 0))) (fun t =>
      t.calPend && t.phase == Phase.calib && t.calPrev) = true := by decide
theorem test_stuck_machine_stops :
    stops (step { rest with stuck := some (.reservedPhase 0xD) }) (.reservedPhase 0xD) = true := by decide

/-! ### Reset: 95_test_vectors.md 2.8 -/

theorem test_reset_in_transaction :
    got (exec (.reset false false) { at' Phase.rdZH BStep.addr with offX := 5, hcnt := 7, ind := true }) (fun t =>
      t.csN && t.bstep == BStep.idle && t.phase == Phase.initW1 && t.offX == 0 && t.hcnt == 100 && t.ind == false &&
        t.outX == 0x8000) = true := by decide
theorem test_reset_keeps_fault :
    got (step (State.given { rest with stuck := some (.reservedPhase 0xD), faults := [.reservedPhase 0xD] }
      (ports true true true false 0))) (fun t =>
        t.stuck == none && t.faults == [.reservedPhase 0xD] && t.tickPend == false && t.calPend == false && t.calPrev) =
      true := by decide
theorem test_reservedPhase_records :
    got (exec (.reservedPhase 0xD) (at' 0xD BStep.idle)) (fun t =>
      t.faults == [.reservedPhase 0xD] && t.stuck == some (.reservedPhase 0xD) && t.phase == 0xD) = true := by decide
theorem test_reserved_bstep_records :
    got (exec .map (at' Phase.map BStep.reserved)) (fun t => t.faults == [.reservedBStep 3] && t.outX == 0x8000) = true := by
  decide
theorem test_led_off_is_high_when_active_low : rest.led = true ∧ { rest with ind := true }.led = false := by decide

/-! ### Program lines: 30_encoding.md R83, R84 and 95_test_vectors.md P1 -/

theorem test_line_cycle_bytes :
    (Reading.ofSamples 500 0 200).bytes = [0xF4, 0x01, 0x00, 0x00, 0xC8, 0x00] := by decide
theorem test_line_frames : (Line.cycle 500 0 200).frames params = [0xB200, 0xB300, 0xB400, 0xB500, 0xB600, 0xB700] ∧
    Line.rst.frames params = [0x2D08, 0x3100] ∧ Line.cal.frames params = [] ∧ (Line.rd 0x32).frames params = [0xB200] ∧
    (Line.wr 0x2D 0x08).frames params = [0x2D08] := by decide
theorem test_line_script_lengths : (Line.script params .rst).length = 7 ∧ (Line.script params .cal).length = 3 ∧
    (Line.script params (.cycle 0 0 0)).length = 22 := by decide

/-! ### Placing table words -/

theorem test_placed_frame_runs :
    got (step (State.reset.withFetchWord 16 0xB23C)) (fun t =>
      t.busTx == 0xB2 && t.bstep == BStep.addr && t.csN == false) = true := by decide
theorem test_placed_event_runs :
    got (step (State.reset.withFetchWord 3 0b001)) (fun t => t.phase == Phase.rdXL && t.history == [.tickTaken]) = true := by
  decide
theorem test_placed_phase_runs :
    got (step (State.reset.withFetchWord 4 0xD)) (fun t => t.faults == [.reservedPhase 0xD]) = true := by decide

/-! ### Witnesses: what meets the hypotheses of each statement -/

/-- A controller waiting in a transaction of phase `p`, with the bus agent's byte `rx` at hand. -/
def receiving (p : PhaseCode) (b : BStepCode) (rx : Byte) : State := State.given (at' p b) (doneWith rx)

/-- A controller waiting in a transaction, in a step in which the bus agent does nothing. -/
def waiting (p : PhaseCode) (b : BStepCode) : State := State.given (at' p b) (ports false false false false 0)

/-- A reading of zeros, which is neutral. -/
def level : Reading := ⟨0, 0, 0, 0, 0, 0⟩

theorem witness_EncodedInstructionDecodesToItself :
    (Instr.readReg 0x7F 0xFF).WellFormed ∧ (Instr.reset true true).WellFormed ∧ (Instr.reservedPhase 0xF).WellFormed := by
  decide
theorem witness_DecodedWordIsTheInstructionsOwn :
    decode .frame [0xB2, 0x00, 0x01] = .ok (.readReg 0x32 0x00, [0x01]) ∧ decode .event [0x07] = .ok (.reset true true, []) ∧
      decode .phase [0x0F] = .ok (.reservedPhase 0xF, []) := ⟨rfl, rfl, rfl⟩
theorem witness_StepRunsTheDecodedInstruction :
    rest.stuck = none ∧ decode rest.fetchFormat rest.fetchBytes = .ok (.idle, []) ∧ Instr.idle.WellFormed := ⟨rfl, rfl, rfl⟩
theorem witness_StepRunsTheDecodedInstruction_reset :
    (State.given rest (ports true false false false 0)).now.rst = true ∧
      decode (State.given rest (ports true false false false 0)).fetchFormat
        (State.given rest (ports true false false false 0)).fetchBytes = .ok (.reset false false, []) ∧
      (Instr.reset false false).WellFormed := ⟨rfl, rfl, rfl⟩
theorem witness_PlacedWordIsRunByTheNextStep :
    decodeTableWord 16 0xB23C = some (.readReg 0x32 0x3C) ∧ rest.bstep = BStep.idle ∧
      decodeTableWord 3 0b110 = some (.reset true false) ∧ decodeTableWord 4 0xF = some (.reservedPhase 0xF) := by decide
theorem witness_StuckControllerHasNoFurtherStep :
    ({ rest with stuck := some (.reservedPhase 0xD) } : State).stuck = some (.reservedPhase 0xD) ∧
      ({ rest with stuck := some (.reservedPhase 0xD) } : State).now.rst = false ∧
      ({ rest with stuck := some (.reservedPhase 0xD) } : State).script = [] := by decide
theorem witness_StuckControllerHasNoFurtherStep_script :
    (State.given { rest with stuck := some (.reservedPhase 0xD) } (doneWith 0)).stuck = some (.reservedPhase 0xD) ∧
      (State.given { rest with stuck := some (.reservedPhase 0xD) } (doneWith 0)).now.rst = false ∧
      (State.given { rest with stuck := some (.reservedPhase 0xD) } (doneWith 0)).script ≠ [] := by decide
theorem witness_ReadRegRunsAddressThenDataThenDeselects :
    rest.bstep = BStep.idle ∧
      ((receiving Phase.rdXL BStep.addr 0xFF).bstep = BStep.addr ∧ (receiving Phase.rdXL BStep.addr 0xFF).now.busDone = true) ∧
      ((receiving Phase.rdXL BStep.data 0xFF).bstep = BStep.data ∧ (receiving Phase.rdXL BStep.data 0xFF).now.busDone = true) ∧
      ((waiting Phase.rdXL BStep.addr).bstep = BStep.addr ∧ (waiting Phase.rdXL BStep.addr).now.busDone = false) ∧
      ((waiting Phase.rdXL BStep.data).bstep = BStep.data ∧ (waiting Phase.rdXL BStep.data).now.busDone = false) := by decide
theorem witness_WriteRegRunsAddressThenDataThenDeselects :
    (at' Phase.initW1 BStep.idle).bstep = BStep.idle ∧
      ((receiving Phase.initW1 BStep.addr 0).bstep = BStep.addr ∧ (receiving Phase.initW1 BStep.addr 0).now.busDone = true) ∧
      ((receiving Phase.initW1 BStep.data 0).bstep = BStep.data ∧ (receiving Phase.initW1 BStep.data 0).now.busDone = true) ∧
      ((waiting Phase.initW1 BStep.addr).bstep = BStep.addr ∧ (waiting Phase.initW1 BStep.addr).now.busDone = false) ∧
      ((waiting Phase.initW1 BStep.data).bstep = BStep.data ∧ (waiting Phase.initW1 BStep.data).now.busDone = false) := by
  decide
theorem witness_FramesWriteOnlyTransactionRegisters :
    formatOf (.readReg 0x7F 0) = .frame ∧ formatOf (.writeReg 0 0xFF) = .frame ∧ rest.bstep ≠ BStep.reserved ∧
      (∃ t, exec (.readReg 0x7F 0) rest = .next t) ∧ ∃ t, exec (.writeReg 0 0xFF) rest = .next t :=
  ⟨rfl, rfl, by decide, ⟨_, rfl⟩, ⟨_, rfl⟩⟩
theorem witness_BusPhasesIssueTheirParametersFrame :
    ¬ (rest.bstep = BStep.data ∧ rest.now.busDone = true) ∧
      ¬ ((receiving Phase.rdXL BStep.addr 1).bstep = BStep.data ∧ (receiving Phase.rdXL BStep.addr 1).now.busDone = true) ∧
      ¬ ((waiting Phase.rdXL BStep.data).bstep = BStep.data ∧ (waiting Phase.rdXL BStep.data).now.busDone = true) := by decide
theorem witness_StartupWritesAdvanceWhenTheirFrameCompletes :
    (receiving Phase.initW2 BStep.data 0).bstep = BStep.data ∧ (receiving Phase.initW2 BStep.data 0).now.busDone = true := by
  decide
theorem witness_LowBytePhasesKeepTheReceivedByte :
    (receiving Phase.rdYL BStep.data 0x80).bstep = BStep.data ∧ (receiving Phase.rdYL BStep.data 0x80).now.busDone = true := by
  decide
theorem witness_HighBytePhasesAssembleTheSample :
    (receiving Phase.rdZH BStep.data 0xFF).bstep = BStep.data ∧ (receiving Phase.rdZH BStep.data 0xFF).now.busDone = true := by
  decide
theorem witness_BusPhasesLeaveEveryOtherRegisterAlone :
    (receiving Phase.rdXL BStep.data 0x80).bstep ≠ BStep.reserved ∧
      (∃ t, exec .initW1 (receiving Phase.initW1 BStep.data 0x80) = .next t) ∧
      (∃ t, exec .rdXL (receiving Phase.rdXL BStep.data 0x80) = .next t) ∧
      (∃ t, exec .rdXH (receiving Phase.rdXH BStep.data 0x80) = .next t) ∧
      (∃ t, exec .rdYH (receiving Phase.rdYH BStep.data 0x80) = .next t) ∧
      ∃ t, exec .rdZH (receiving Phase.rdZH BStep.data 0x80) = .next t :=
  ⟨by decide, ⟨_, rfl⟩, ⟨_, rfl⟩, ⟨_, rfl⟩, ⟨_, rfl⟩, ⟨_, rfl⟩⟩
theorem witness_AddressPhaseByteReachesNoRegister :
    (receiving Phase.rdXL BStep.addr 0x5A).script = [doneWith 0x5A] ∧
      (receiving Phase.rdXL BStep.addr 0x5A).bstep = BStep.addr := by decide
theorem witness_BusHangHoldsForAnyNumberOfSteps :
    (waiting Phase.initW1 BStep.addr).WaitsForBus ∧
      ∀ e ∈ (waiting Phase.initW1 BStep.addr).script.take 5, e.busDone = false ∧ e.rst = false ∧ e.tick = false := by decide
theorem witness_MapWritesTheSelectedPairScaledAndOffset :
    (tilted 500 0 171 0 0).bstep ≠ BStep.reserved ∧ |(tilted 500 0 171 0 0).sz.toInt| > 170 ∧
      (|(tilted 171 0 170 0 0).sz.toInt| ≤ 170 ∧ |(tilted 171 0 170 0 0).sx.toInt| > 170) ∧
      (|(tilted 170 171 (-170) 0 0).sz.toInt| ≤ 170 ∧ |(tilted 170 171 (-170) 0 0).sx.toInt| ≤ 170 ∧
        |(tilted 170 171 (-170) 0 0).sy.toInt| > 170) ∧ |(tilted 170 170 (-170) 0 0).sy.toInt| ≤ 170 := by decide
theorem witness_DebounceCountsDownReloadsAndDrivesTheIndicator :
    (shown 28673 36863 1 false).bstep ≠ BStep.reserved ∧ (shown 28673 36863 1 false).level = true ∧
      (shown 28673 36863 2 false).level = true ∧ (shown 28672 32768 1 true).level = false ∧
      (shown 32768 36864 1 true).level = false := by decide
theorem witness_LevelIndicatorStaysOnWhileLevelHolds :
    (shown 32768 32768 100 true).bstep ≠ BStep.reserved ∧ (shown 32768 32768 100 true).level = true ∧
      (shown 32768 32768 100 true).hcnt = 100 ∧ (shown 32768 32768 100 true).ind = true ∧ 99 ≤ 100 ∧ 100 ≤ 100 := by decide
theorem witness_NeutralCycleCountsAsLevel :
    (tilted 170 (-170) 170 5 7).bstep ≠ BStep.reserved ∧
      orientOf (tilted 170 (-170) 170 5 7).sx (tilted 170 (-170) 170 5 7).sy (tilted 170 (-170) 170 5 7).sz = .neutral ∧
      ({ tilted 170 (-170) 170 5 7 with hcnt := 1 } : State).hcnt = 1 ∧ (tilted 170 (-170) 170 5 7).hcnt ≠ 1 := by decide
theorem witness_CalibrationAddsTheOutputsDistanceFromCentre : (shown 34768 36768 100 false).bstep ≠ BStep.reserved := by decide
theorem witness_OneStepPhasesWriteOnlyTheirOwnRegisters :
    rest.bstep ≠ BStep.reserved ∧ (∃ t, exec .map rest = .next t) ∧ (∃ t, exec .debounce rest = .next t) ∧
      ∃ t, exec .calib rest = .next t := ⟨by decide, ⟨_, rfl⟩, ⟨_, rfl⟩, ⟨_, rfl⟩⟩
theorem witness_CalibrationRezeroesTheSameReading : (tilted 10 (-20) 300 2000 4000).bstep ≠ BStep.reserved := by decide
theorem witness_RepeatedCalibrationsAccumulate : (shown 34768 36768 100 false).bstep ≠ BStep.reserved := by decide
theorem witness_AcceptanceStartsTheRequestedOperation : rest.bstep ≠ BStep.reserved ∧ rest.phase = Phase.idle := by decide
theorem witness_IdlePhaseTakesWhatIsPending :
    (rest.bstep ≠ BStep.reserved ∧ rest.phase = Phase.idle) ∧ (rest.calPend = false ∧ rest.tickPend = false) ∧
      (({ rest with tickPend := true } : State).calPend = false ∧ ({ rest with tickPend := true } : State).tickPend = true) ∧
      (({ rest with calPend := true } : State).calPend = true ∧ ({ rest with calPend := true } : State).tickPend = false) ∧
      (({ rest with calPend := true, tickPend := true } : State).calPend = true ∧
        ({ rest with calPend := true, tickPend := true } : State).tickPend = true) := by decide

/-- Both requests pending under an arbitration order. -/
def bothPending (o : Config.ArbOrder) : State :=
  { rest with tickPend := true, calPend := true, cfg := { params with arbOrder := o } }

theorem witness_SimultaneousRequestsAreTakenInArbitrationOrder :
    ((bothPending .any).bstep ≠ BStep.reserved ∧ (bothPending .any).phase = Phase.idle ∧
      (bothPending .any).tickPend = true ∧ (bothPending .any).calPend = true ∧ (bothPending .any).cfg.arbOrder = .any) ∧
      (bothPending .tickFirst).cfg.arbOrder = .tickFirst ∧ (bothPending .calFirst).cfg.arbOrder = .calFirst := by decide
theorem witness_EventsWriteOnlyFlagsAndPhase :
    rest.bstep ≠ BStep.reserved ∧ (∃ t, exec .tick rest = .next t) ∧ (∃ t, exec .idle rest = .next t) ∧
      (at' Phase.map BStep.idle).phase ≠ Phase.idle ∧ ∃ t, exec .cal (at' Phase.map BStep.idle) = .next t :=
  ⟨by decide, ⟨_, rfl⟩, ⟨_, rfl⟩, by decide, ⟨_, rfl⟩⟩

/-- A tick arrives in phase `p`. -/
def ticked (p : PhaseCode) : State := State.given (at' p BStep.idle) (ports false true false false 0)

theorem witness_TickIsLatchedOrOverruns :
    (∀ p : PhaseCode, (ticked p).stuck = none ∧ (ticked p).now.rst = false ∧ (ticked p).now.tick = true) ∧
      (3 ≤ (ticked Phase.rdXL).phase.toNat ∧ (ticked Phase.debounce).phase.toNat ≤ 10) ∧
      ((ticked Phase.initW2).phase.toNat < 3 ∧ (ticked Phase.calib).phase.toNat > 10 ∧
        (ticked Phase.calib).tickPend = false) := by decide

/-- The calibration input goes from `a` to `b` in phase `p`. -/
def pressed (k : Config.Edge) (p : PhaseCode) (a b : Bool) : State :=
  State.given { at' p BStep.idle with calPrev := a, cfg := { params with calEdge := k } } (ports false false b false 0)

theorem witness_CalibrationEdgeIsLatchedInEveryPhase :
    ((pressed .rising Phase.rdXH false true).stuck = none ∧ (pressed .rising Phase.rdXH false true).now.rst = false) ∧
      ((pressed .rising Phase.rdXH false true).calPrev = false ∧ (pressed .rising Phase.rdXH false true).now.calIn = true) ∧
      ((pressed .falling Phase.idle true false).calPrev = true ∧ (pressed .falling Phase.idle true false).now.calIn = false) ∧
      ((pressed .falling Phase.map false true).calPrev = false ∧ (pressed .falling Phase.map false true).now.calIn = true) := by
  decide
theorem witness_IdleWaitChangesNothing : rest.WaitsInIdle ∧ rest.script = [] := by decide
theorem witness_ResetKeepsFaultsConfigurationAndScript :
    ∃ t, exec (.reset true true) (at' Phase.rdZH BStep.addr) = .next t := ⟨_, rfl⟩
theorem witness_ResetComesFirstInEveryState :
    (State.given { rest with stuck := some (.reservedPhase 0xD) } (ports true true true true 0)).now.rst = true := by decide
theorem witness_ReservedCodesRecordFaultAndNothingElse :
    (at' 0xC BStep.idle).bstep ≠ BStep.reserved ∧ (at' Phase.map BStep.reserved).bstep = BStep.reserved ∧
      (∀ c k : Bool, Instr.map ≠ .reset c k) ∧ ∀ c k : Bool, Instr.reservedPhase 0xF ≠ .reset c k := by decide
theorem witness_EveryStepKeepsTheStateLegal :
    (at' Phase.map BStep.idle).Legal ∧ ∃ t, step (at' Phase.map BStep.idle) = .next t := ⟨by decide, _, rfl⟩
theorem witness_EveryStepKeepsTheStateLegal_in_transaction :
    (receiving Phase.rdZH BStep.data 0xFF).Legal ∧ ∃ t, step (receiving Phase.rdZH BStep.data 0xFF) = .next t :=
  ⟨by decide, _, rfl⟩
theorem witness_IndicatorIsOnOnlyWhileOutputsAreLevel :
    (shown 32768 32768 1 true).IndicatorTruthful ∧ ({ rest with ind := true } : State).IndicatorTruthful ∧
      ∃ t, step (shown 32768 32768 1 true) = .next t := ⟨by decide, by decide, _, rfl⟩
theorem witness_PhaseChangesOnlyByTheTransitionTable :
    ∃ t, step (receiving Phase.rdZH BStep.data 0xFF) = .next t ∧ t.phase ≠ (receiving Phase.rdZH BStep.data 0xFF).phase :=
  ⟨_, rfl, by decide⟩
theorem witness_PhaseChangesOnlyByTheTransitionTable_acceptance :
    ∃ t, step { rest with tickPend := true } = .next t ∧ t.phase ≠ rest.phase := ⟨_, rfl, by decide⟩
theorem witness_OnlyTheOwningPhaseWritesARegister :
    (∃ t, step (tilted 500 0 200 0 0) = .next t) ∧ (tilted 500 0 200 0 0).now.rst = false := ⟨⟨_, rfl⟩, rfl⟩
theorem witness_FaultSetOnlyGrowsAndConfigurationIsFixed : ∃ t, step (ticked Phase.rdYL) = .next t ∧ t.faults ≠ [] :=
  ⟨_, rfl, by decide⟩
theorem witness_LegalStatesNeverRecordReservedState :
    (ticked Phase.rdYL).Legal ∧ ∃ t, step (ticked Phase.rdYL) = .next t := ⟨by decide, _, rfl⟩
theorem witness_HistoryInfluencesNothing : ∃ t, step (tilted 500 0 200 0 0) = .next t ∧ t.history ≠ [] :=
  ⟨_, rfl, by decide⟩
theorem witness_HistoryRecordsEveryChangeOfOutputsAndIndicator :
    (∃ t, exec .map (tilted 500 0 200 0 0) = .next t ∧ t.outX ≠ (tilted 500 0 200 0 0).outX) ∧
      (∃ t, exec .debounce (shown 32768 32768 1 false) = .next t ∧ t.ind ≠ false) ∧
      ∃ t, exec (.reset false false) (shown 0 0 1 true) = .next t ∧ t.outY ≠ 0 :=
  ⟨⟨_, rfl, by decide⟩, ⟨_, rfl, by decide⟩, _, rfl, by decide⟩

/-- A block that has just been reset, with the bus completing INIT at once. -/
def booting : State :=
  { at' Phase.initW1 BStep.idle with script := transactionScript false 0x5A 0x3C ++ transactionScript false 0x5A 0x3C }

theorem witness_StartupSendsTheTwoConfigurationFrames :
    booting.stuck = none ∧ booting.phase = Phase.initW1 ∧ booting.bstep = BStep.idle ∧
      booting.script = transactionScript booting.calPrev 0x5A 0x3C ++ transactionScript booting.calPrev 0x5A 0x3C ++ [] := by
  decide

/-- A block at rest, about to be given these readings. -/
def sampling (rs : List Reading) : State := { rest with script := (rs.map (cycleScript false 0)).flatten }

theorem witness_SamplingCycleRunsFromRestToRest :
    (sampling [level]).AtRest ∧
      (sampling [level]).script = cycleScript (sampling [level]).calPrev 0 level ++ [] := ⟨by decide, rfl⟩

theorem witness_CycleSendsItsSixFramesInOrder :
    (sampling [Reading.ofSamples 500 0 200]).AtRest ∧ (sampling [Reading.ofSamples 500 0 200]).script =
      cycleScript (sampling [Reading.ofSamples 500 0 200]).calPrev 0 (Reading.ofSamples 500 0 200) ++ [] := ⟨by decide, rfl⟩

/-- The hypotheses on `k` level readings. -/
theorem level_readings (k : Nat) :
    ∀ r ∈ List.replicate k level, levelOf (r.outputs rest.offX rest.offY).1 (r.outputs rest.offX rest.offY).2 = true := by
  intro r hr
  rw [List.eq_of_mem_replicate hr]
  decide

/-- What the indicator's statement asks of a state, of its readings and of the rest of its script. -/
abbrev LevelCycles (s : State) (rs : List Reading) : Prop :=
  s.AtRest ∧ s.hcnt = 100 ∧ s.ind = false ∧ rs.length ≤ 100 ∧
    (∀ r ∈ rs, levelOf (r.outputs s.offX s.offY).1 (r.outputs s.offX s.offY).2 = true) ∧
    s.script = (rs.map (cycleScript s.calPrev 0)).flatten ++ []

theorem level_cycles (k : Nat) (hk : k ≤ 100) : LevelCycles (sampling (List.replicate k level)) (List.replicate k level) :=
  ⟨⟨⟨rfl, rfl, rfl, rfl, rfl⟩, rfl, rfl⟩, rfl, rfl, by simpa using hk, level_readings k, (List.append_nil _).symm⟩

theorem witness_IndicatorTurnsOnAtTheHundredthLevelCycle :
    LevelCycles (sampling (List.replicate 100 level)) (List.replicate 100 level) := level_cycles 100 (by decide)
theorem witness_IndicatorTurnsOnAtTheHundredthLevelCycle_not_before :
    LevelCycles (sampling (List.replicate 99 level)) (List.replicate 99 level) := level_cycles 99 (by decide)

end Sys2Proof.Tests
end

section
/-! PROOFS. The checked configuration, and the instruction that a step runs (family `00_scope.md`). -/

/-! ### Checking a configuration -/

namespace Sys2Proof.Config

/-- A configuration written out as plain numbers, the form that `configure` checks. -/
def Params.toRaw (p : Params) : RawParams where
  addrXL := p.addrXL.toNat
  addrXH := p.addrXH.toNat
  addrYL := p.addrYL.toNat
  addrYH := p.addrYH.toNat
  addrZL := p.addrZL.toNat
  addrZH := p.addrZH.toNat
  cfg1Addr := p.cfg1Addr.toNat
  cfg1Val := p.cfg1Val.toNat
  cfg2Addr := p.cfg2Addr.toNat
  cfg2Val := p.cfg2Val.toNat
  readDummy := p.readDummy.toNat
  outResetX := p.outResetX.toNat
  outResetY := p.outResetY.toNat
  calEdge := p.calEdge
  ledActiveLevel := p.ledActiveLevel
  arbOrder := p.arbOrder
  overrunPolicy := p.overrunPolicy
  clkPolarity := p.electrical.clkPolarity
  clkPhase := p.electrical.clkPhase
  bitOrder := p.electrical.bitOrder
  busClk := p.electrical.busClk
  csSetup := p.electrical.csSetup
  csHold := p.electrical.csHold
  csIdleMin := p.electrical.csIdleMin
  tickPeriod := p.electrical.tickPeriod
  pwmPeriod := p.electrical.pwmPeriod.toNat

/-- The configuration that numbers stand for, each wrapped into its parameter's type. -/
def RawParams.toParams (r : RawParams) : Params where
  addrXL := .ofNat 7 r.addrXL
  addrXH := .ofNat 7 r.addrXH
  addrYL := .ofNat 7 r.addrYL
  addrYH := .ofNat 7 r.addrYH
  addrZL := .ofNat 7 r.addrZL
  addrZH := .ofNat 7 r.addrZH
  cfg1Addr := .ofNat 7 r.cfg1Addr
  cfg1Val := .ofNat 8 r.cfg1Val
  cfg2Addr := .ofNat 7 r.cfg2Addr
  cfg2Val := .ofNat 8 r.cfg2Val
  readDummy := .ofNat 8 r.readDummy
  outResetX := .ofNat 16 r.outResetX
  outResetY := .ofNat 16 r.outResetY
  calEdge := r.calEdge
  ledActiveLevel := r.ledActiveLevel
  arbOrder := r.arbOrder
  overrunPolicy := r.overrunPolicy
  electrical := { r with tickPeriod := r.tickPeriod.toPNat', pwmPeriod := .ofNat 16 r.pwmPeriod }

/-- Every parameter of a written configuration lies in its domain (00_scope.md R9, 20_memory.md R55). -/
abbrev RawParams.InDomain (r : RawParams) : Prop :=
  r.addrXL ≤ 0x7F ∧ r.addrXH ≤ 0x7F ∧ r.addrYL ≤ 0x7F ∧ r.addrYH ≤ 0x7F ∧ r.addrZL ≤ 0x7F ∧ r.addrZH ≤ 0x7F ∧
    r.cfg1Addr ≤ 0x7F ∧ r.cfg2Addr ≤ 0x7F ∧ r.cfg1Val ≤ 0xFF ∧ r.cfg2Val ≤ 0xFF ∧ r.readDummy ≤ 0xFF ∧
    r.outResetX ≤ 0xFFFF ∧ r.outResetY ≤ 0xFFFF ∧ 0 < r.tickPeriod ∧ r.pwmPeriod ≤ 0xFFFF

theorem Params.toRaw_inDomain (p : Params) : p.toRaw.InDomain :=
  have le7 (a : Addr) : a.toNat ≤ 0x7F := Nat.le_of_lt_succ a.isLt
  have le8 (b : Byte) : b.toNat ≤ 0xFF := Nat.le_of_lt_succ b.isLt
  have le16 (h : Half) : h.toNat ≤ 0xFFFF := Nat.le_of_lt_succ h.isLt
  ⟨le7 _, le7 _, le7 _, le7 _, le7 _, le7 _, le7 _, le7 _, le8 _, le8 _, le8 _, le16 _, le16 _,
    p.electrical.tickPeriod.pos, le16 _⟩

/-- Numbers in their domains are kept by the wrapping. -/
theorem RawParams.toRaw_toParams {r : RawParams} (h : r.InDomain) : r.toParams.toRaw = r := by
  obtain ⟨hXL, hXH, hYL, hYH, hZL, hZH, hA1, hA2, hV1, hV2, hDummy, hOutX, hOutY, hTick, hPwm⟩ := h
  simp (disch := omega) only [Params.toRaw, toParams, BitVec.toNat_ofNat, Nat.mod_eq_of_lt, Nat.toPNat'_coe,
    if_pos hTick]

end Sys2Proof.Config

namespace Sys2Proof.Machine

/-- The check of a `w`-bit parameter answers exactly the word that the number stands for. -/
theorem widthCheck_eq_ok_iff {w v : Nat} {e : ConfigRefusal} {a : BitVec w} :
    (if v < 2 ^ w then Except.ok (BitVec.ofNat w v) else .error e) = .ok a ↔ a.toNat = v := by
  split
  case isTrue hv => rw [Except.ok.injEq, eq_comm, BitVec.toNat_eq, BitVec.toNat_ofNat, Nat.mod_eq_of_lt hv]
  case isFalse hv => exact iff_of_false nofun fun h => hv (h ▸ a.isLt)

theorem checkAddr_eq_ok_iff {v : Nat} {a : Addr} : checkAddr v = .ok a ↔ a.toNat = v :=
  widthCheck_eq_ok_iff (w := 7)

theorem checkByte_eq_ok_iff {v : Nat} {b : Byte} : checkByte v = .ok b ↔ b.toNat = v :=
  widthCheck_eq_ok_iff (w := 8)

theorem checkHalf_eq_ok_iff {v : Nat} {h : Half} : checkHalf v = .ok h ↔ h.toNat = v :=
  widthCheck_eq_ok_iff (w := 16)

theorem checkPeriod_eq_ok_iff {v : Nat} {t : ℕ+} : checkPeriod v = .ok t ↔ (t : Nat) = v := by
  unfold checkPeriod
  split
  case isTrue hv => exact ⟨fun h => by cases h; rfl, fun h => by subst h; rfl⟩
  case isFalse hv => exact iff_of_false nofun fun h => hv (h ▸ t.pos)

/-- A check followed by the checks after it answers `c` exactly when each answers. -/
theorem bind_eq_ok_iff {ε α β : Type} {x : Except ε α} {f : α → Except ε β} {c : β} :
    x >>= f = .ok c ↔ ∃ a, x = .ok a ∧ f a = .ok c := by
  cases x <;> simp [bind, Except.bind]

/-- `configure` answers `p` exactly to the numbers that `p` is written with. -/
theorem configure_eq_ok_iff {r : Config.RawParams} {p : Config.Params} : configure r = .ok p ↔ p.toRaw = r := by
  simp only [configure, bind_eq_ok_iff, checkAddr_eq_ok_iff, checkByte_eq_ok_iff, checkHalf_eq_ok_iff,
    checkPeriod_eq_ok_iff]
  constructor
  · rintro ⟨_, h1, _, h2, _, h3, _, h4, _, h5, _, h6, _, h7, _, h8, _, h9, _, h10, _, h11, _, h12, _, h13, _, h14,
      _, h15, h⟩
    cases h
    simp only [Config.Params.toRaw, *]
  · rintro rfl
    exact ⟨_, rfl, _, rfl, _, rfl, _, rfl, _, rfl, _, rfl, _, rfl, _, rfl, _, rfl, _, rfl, _, rfl, _, rfl, _, rfl,
      _, rfl, _, rfl, rfl⟩

/-- Settles O60: `configure` inverts `Params.toRaw`, so it answers exactly the numbers that a configuration can be
written with, and answers that configuration. -/
theorem configurationOutsideItsDomainIsRefused : Obligations.ConfigurationOutsideItsDomainIsRefused := by
  intro r
  refine ⟨⟨?_, fun hr => ⟨r.toParams, configure_eq_ok_iff.2 (Config.RawParams.toRaw_toParams hr)⟩⟩, ?_⟩
  · rintro ⟨p, hp⟩
    exact configure_eq_ok_iff.1 hp ▸ p.toRaw_inDomain
  · intro p hp
    obtain rfl := configure_eq_ok_iff.1 hp
    exact ⟨rfl, rfl, rfl, rfl, rfl, rfl, rfl, rfl, rfl, rfl, rfl, rfl⟩

/-! ### The instruction of a step -/

theorem fetch_of_decode {s : State} {i : Instr} {rest : List Byte}
    (h : decode s.fetchFormat s.fetchBytes = .ok (i, rest)) : s.fetch = .ok i := by
  rw [State.fetch, h]

/-- Settles O8: every instruction answers a next state, and `finishStep` is the latching and the spent entry. -/
theorem stepRunsTheDecodedInstruction : Obligations.StepRunsTheDecodedInstruction := by
  intro s i hfree hdec _
  obtain ⟨t, ht⟩ := exec_answers_next i s
  exact ⟨t, ht, step_of_fetch hfree (fetch_of_decode hdec) ht⟩

end Sys2Proof.Machine
end

section
/-! PROOFS. What a step may write, and the history that no step reads (family `10_state.md`). -/

namespace Sys2Proof.Machine

/-! ### The owner of each register -/

/-- The access matrix of 10_state.md R33: what differs between `s` and `t` belongs to the phase of `s`. -/
def OwnersWrite (s t : State) : Prop :=
  (t.sx ≠ s.sx → s.phase = Phase.rdXH) ∧ (t.sy ≠ s.sy → s.phase = Phase.rdYH) ∧
    (t.sz ≠ s.sz → s.phase = Phase.rdZH) ∧
    (t.loBuf ≠ s.loBuf → s.phase = Phase.rdXL ∨ s.phase = Phase.rdYL ∨ s.phase = Phase.rdZL) ∧
    (t.outX ≠ s.outX ∨ t.outY ≠ s.outY → s.phase = Phase.map) ∧
    (t.offX ≠ s.offX ∨ t.offY ≠ s.offY → s.phase = Phase.calib) ∧
    (t.hcnt ≠ s.hcnt ∨ t.ind ≠ s.ind → s.phase = Phase.debounce) ∧
    (t.csN ≠ s.csN ∨ t.busTx ≠ s.busTx ∨ t.busGo ≠ s.busGo ∨ t.bstep ≠ s.bstep → busPhase s.phase = true)

/-- Latching requests and spending the script entry write none of these registers. -/
theorem OwnersWrite.latched {s u : State} (h : OwnersWrite s u) :
    OwnersWrite s (latchCal s (latchTick s u)).dropInput := by
  simpa [OwnersWrite] using h

theorem Move.ownersWrite {s u : State} (h : Move s u) : OwnersWrite s u := by
  cases h with
  | reserved => simp [OwnersWrite]
  | wait => simp [OwnersWrite]
  | takeTick => simp [OwnersWrite]
  | takeCal => simp [OwnersWrite]
  | issueAddress _ hp => simp [OwnersWrite, hp]
  | issueData _ hp => simp [OwnersWrite, hp]
  | holdBus hp => simp [OwnersWrite, hp]
  | write _ _ _ _ _ hp =>
    have hbus : busPhase s.phase = true := by obtain ⟨h, -⟩ | ⟨h, -⟩ := hp <;> rw [h] <;> rfl
    simp [OwnersWrite, hbus]
  | low _ _ _ _ _ hp =>
    have hlow : s.phase = Phase.rdXL ∨ s.phase = Phase.rdYL ∨ s.phase = Phase.rdZL :=
      hp.imp And.left (Or.imp And.left And.left)
    have hbus : busPhase s.phase = true := by obtain h | h | h := hlow <;> rw [h] <;> rfl
    simpa [OwnersWrite, hbus] using fun _ => hlow
  | highX _ _ _ _ hp => simp [OwnersWrite, hp, busPhase]
  | highY _ _ _ _ hp => simp [OwnersWrite, hp, busPhase]
  | highZ _ _ _ _ hp => simp [OwnersWrite, hp, busPhase]
  | map hp => simp [OwnersWrite, hp]
  | debounce hp => simp [OwnersWrite, hp]
  | calib hp => simp [OwnersWrite, hp]

/-- Settles O51: a held controller moves its script alone, and every move writes the registers of its own phase. -/
theorem onlyTheOwningPhaseWritesARegister : Obligations.OnlyTheOwningPhaseWritesARegister := by
  intro s t hstep hrst
  obtain ⟨hr, -⟩ | ⟨-, -, rfl⟩ | ⟨-, -, u, hmove, rfl⟩ := step_cases hstep
  · rw [hrst] at hr; cases hr
  · simp
  · exact hmove.ownersWrite.latched

/-! ### Frames -/

/-- With no reserved code, one step of a bus phase is T0, T1, a wait, or T2 with what the phase does with the result. -/
theorem onResult_transact_cases {s t : State} {b0 b1 : Byte} {k : State → Byte → State}
    (hb : s.bstep ≠ BStep.reserved) (h : onResult (transact s b0 b1) k = t) :
    t = s.issueAddress b0 ∨ t = s.issueData b1 ∨ t = s.holdBus ∨
      t = k (s.completeBus b0 b1 s.now.busRx) s.now.busRx := by
  obtain ⟨-, e⟩ | ⟨-, -, e⟩ | ⟨-, -, e⟩ | ⟨-, -, e⟩ | ⟨hres, -⟩ := transact_cases s b0 b1
  case inr.inr.inr.inr => exact absurd hres hb
  all_goals rw [e] at h; subst h
  · exact .inl rfl
  · exact .inr (.inl rfl)
  · exact .inr (.inr (.inr rfl))
  · exact .inr (.inr (.inl rfl))

/-- Settles O18: T0, T1, the wait and T2 write the transaction registers, and T2 what its phase takes. -/
theorem busPhasesLeaveEveryOtherRegisterAlone : Obligations.BusPhasesLeaveEveryOtherRegisterAlone := by
  intro s t hb
  refine ⟨Or.rec ?_ ?_, Or.rec ?_ (Or.rec ?_ ?_), ?_, ?_, ?_⟩
  all_goals
    intro h
    obtain rfl | rfl | rfl | rfl := onResult_transact_cases hb (Host.Outcome.next.inj h) <;> rfl

/-- Settles O32: with no reserved code each of the three phases is its one write. -/
theorem oneStepPhasesWriteOnlyTheirOwnRegisters : Obligations.OneStepPhasesWriteOnlyTheirOwnRegisters := by
  intro s t hb
  simp only [exec_map, exec_debounce, exec_calib, unlessReserved_legal hb, Host.Outcome.next.injEq]
  exact ⟨by rintro rfl; rfl, by rintro rfl; rfl, by rintro rfl; rfl⟩

/-! ### What the history records -/

/-- At most out_x, out_y and ind change. -/
theorem length_changes_le (old new : State) : (changes old new).length ≤ 3 := by
  unfold changes
  split_ifs <;> simp

/-- Settles O43: reset writes none of these, and records its changes on top of the history. -/
theorem resetKeepsFaultsConfigurationAndScript : Obligations.ResetKeepsFaultsConfigurationAndScript := by
  intro c k s t h
  cases h
  exact ⟨rfl, rfl, rfl, rfl, _, s.applyReset_history, length_changes_le ..⟩

theorem mem_changes_iff {old new : State} {e : HistEvent} :
    e ∈ changes old new ↔ (e = .ind new.ind ∧ new.ind ≠ old.ind) ∨ (e = .outY new.outY ∧ new.outY ≠ old.outY) ∨
      (e = .outX new.outX ∧ new.outX ≠ old.outX) := by
  have entry (c : Prop) [Decidable c] (a : HistEvent) : e ∈ (if c then [] else [a]) ↔ e = a ∧ ¬ c := by
    split <;> simp [*]
  simp only [changes, List.mem_append, entry, eq_comm, ne_eq]

/-- A write that records its changes records them also where the reserved code of bstep keeps it from being made. -/
theorem unlessReserved_history {s : State} {k : State → State} (hk : (k s).history = changes s (k s) ++ s.history) :
    (unlessReserved s k).history = changes s (unlessReserved s k) ++ s.history := by
  by_cases hb : s.bstep = BStep.reserved
  · rw [unlessReserved_reserved hb]; simp [changes]
  · rwa [unlessReserved_legal hb]

/-- Settles O55: the three record their `changes`, which are the registers that differ. -/
theorem historyRecordsEveryChangeOfOutputsAndIndicator :
    Obligations.HistoryRecordsEveryChangeOfOutputsAndIndicator := by
  intro i s t hi h
  have hist : t.history = changes s t ++ s.history := by
    obtain rfl | rfl | ⟨c, k, rfl⟩ := hi <;> cases h
    exacts [unlessReserved_history s.commitOutputs_history, unlessReserved_history s.debounced_history,
      s.applyReset_history]
  refine ⟨_, hist, fun v => ?_, fun v => ?_, fun v => ?_, fun e he => ?_⟩
  · simp [mem_changes_iff]
  · simp [mem_changes_iff]
  · simp [mem_changes_iff]
  · obtain ⟨h, -⟩ | ⟨h, -⟩ | ⟨h, -⟩ := mem_changes_iff.1 he
    exacts [.inr (.inr h), .inr (.inl h), .inl h]

/-! ### No step reads the history -/

/-- `s` with another history. -/
def State.withHistory (s : State) (h : List HistEvent) : State := { s with history := h }

/-- An update whose other writes do not depend on the history. -/
def HistoryBlind (f : State → State) : Prop :=
  ∀ s h, ∃ h', f (s.withHistory h) = (f s).withHistory h'

theorem unlessReserved_withHistory {k : State → State} (hk : HistoryBlind k) (s : State) (h : List HistEvent) :
    ∃ h', unlessReserved (s.withHistory h) k = (unlessReserved s k).withHistory h' := by
  by_cases hb : s.bstep = BStep.reserved
  · rw [unlessReserved_reserved hb, unlessReserved_reserved (s := s.withHistory h) hb]
    exact ⟨h, rfl⟩
  · rw [unlessReserved_legal hb, unlessReserved_legal (s := s.withHistory h) hb]
    exact hk s h

theorem inIdle_withHistory {k : State → State} (hk : HistoryBlind k) (s : State) (h : List HistEvent) :
    ∃ h', inIdle (s.withHistory h) k = (inIdle s k).withHistory h' := by
  refine unlessReserved_withHistory (fun t g => ?_) s h
  by_cases hp : t.phase = Phase.idle
  · rw [if_pos hp, if_pos (show (t.withHistory g).phase = Phase.idle from hp)]
    exact hk t g
  · rw [if_neg hp, if_neg (show ¬ (t.withHistory g).phase = Phase.idle from hp)]
    exact ⟨g, rfl⟩

theorem acceptTick_historyBlind : HistoryBlind State.acceptTick := fun _ _ => ⟨_, rfl⟩

theorem acceptCal_historyBlind : HistoryBlind State.acceptCal := fun _ _ => ⟨_, rfl⟩

/-- The order of two pending requests does not depend on the history either. -/
theorem acceptBoth_historyBlind : HistoryBlind State.acceptBoth := by
  intro s h
  have horder : (s.withHistory h).calGoesFirst = s.calGoesFirst := rfl
  unfold State.acceptBoth
  rw [horder]
  split <;> exact ⟨_, rfl⟩

theorem transact_withHistory (s : State) (h : List HistEvent) (b0 b1 : Byte) :
    ∃ h', transact (s.withHistory h) b0 b1 = ((transact s b0 b1).1.withHistory h', (transact s b0 b1).2) := by
  obtain ⟨hb, e⟩ | ⟨hb, hd, e⟩ | ⟨hb, hd, e⟩ | ⟨hb | hb, hd, e⟩ | ⟨hb, e⟩ := transact_cases s b0 b1 <;> rw [e]
  · exact ⟨_, transact_idle (s := s.withHistory h) hb ..⟩
  · exact ⟨_, transact_addr_done (s := s.withHistory h) hb hd ..⟩
  · exact ⟨_, transact_data_done (s := s.withHistory h) hb hd ..⟩
  · exact ⟨_, transact_addr_wait (s := s.withHistory h) hb hd ..⟩
  · exact ⟨_, transact_data_wait (s := s.withHistory h) hb hd ..⟩
  · exact ⟨_, transact_reserved (s := s.withHistory h) hb ..⟩

theorem onResult_withHistory {k : State → Byte → State} (hk : ∀ d, HistoryBlind (k · d)) (s : State)
    (h : List HistEvent) (b0 b1 : Byte) :
    ∃ h', onResult (transact (s.withHistory h) b0 b1) k = (onResult (transact s b0 b1) k).withHistory h' := by
  obtain ⟨g, hg⟩ := transact_withHistory s h b0 b1
  rw [hg]
  unfold onResult
  cases (transact s b0 b1).2 with
  | none => exact ⟨g, rfl⟩
  | some d => exact hk d _ g

/-- Every instruction is an update that does not read the history. -/
theorem exec_withHistory (i : Instr) {s u : State} (h : List HistEvent) (hu : exec i s = .next u) :
    ∃ h', exec i (s.withHistory h) = .next (u.withHistory h') := by
  have answers {v w : State} (hv : ∃ h', v = w.withHistory h') :
      ∃ h', (.next v : Host.Outcome State Fault Refusal) = .next (w.withHistory h') :=
    hv.imp fun _ => congrArg _
  cases i <;> cases hu
  case readReg | writeReg => exact answers ((transact_withHistory s h _ _).imp fun _ => congrArg Prod.fst)
  case reset => exact ⟨_, rfl⟩
  case tick => exact answers (inIdle_withHistory acceptTick_historyBlind s h)
  case cal => exact answers (inIdle_withHistory acceptCal_historyBlind s h)
  case tickCal => exact answers (inIdle_withHistory acceptBoth_historyBlind s h)
  case idle =>
    refine answers (inIdle_withHistory (fun t g => ?_) s h)
    rw [show (t.withHistory g).calPend = t.calPend from rfl, show (t.withHistory g).tickPend = t.tickPend from rfl]
    cases t.calPend <;> cases t.tickPend
    exacts [⟨g, rfl⟩, acceptTick_historyBlind t g, acceptCal_historyBlind t g, acceptBoth_historyBlind t g]
  case map | debounce | calib => exact answers (unlessReserved_withHistory (fun _ _ => ⟨_, rfl⟩) s h)
  case reservedPhase c =>
    exact answers (unlessReserved_withHistory (fun _ _ => ⟨_, rfl⟩) (s.raise (.reservedPhase c)) h)
  all_goals exact answers (onResult_withHistory (fun _ _ _ => ⟨_, rfl⟩) s h _ _)

theorem latchTick_withHistory (s t : State) (h h' : List HistEvent) :
    latchTick (s.withHistory h) (t.withHistory h') = (latchTick s t).withHistory h' := by
  cases ht : s.now.tick with
  | false => rw [latchTick_quiet ht, latchTick_quiet (s := s.withHistory h) ht]
  | true =>
    cases ho : s.tickOverruns with
    | false => rw [latchTick_pend ht ho, latchTick_pend (s := s.withHistory h) ht ho]; rfl
    | true => rw [latchTick_overrun ht ho, latchTick_overrun (s := s.withHistory h) ht ho]; rfl

theorem finishStep_withHistory (s t : State) (h h' : List HistEvent) :
    finishStep (s.withHistory h) (t.withHistory h') = (finishStep s t).withHistory h' := by
  cases hr : s.now.rst with
  | true => rw [finishStep_reset hr, finishStep_reset (s := s.withHistory h) hr]; rfl
  | false =>
    rw [finishStep_latch hr, finishStep_latch (s := s.withHistory h) hr, latchTick_withHistory]
    rfl

/-- 60_exceptions.md R252: without reset, a stuck controller lets the script go on and does nothing else. -/
theorem step_of_stuck {s : State} {f : Fault} (hs : s.stuck = some f) (hr : s.now.rst = false)
    (hsc : s.script ≠ []) : step s = .next s.dropInput := by
  obtain ⟨e, rest, hsc⟩ := List.exists_cons_of_ne_nil hsc
  have hheld : heldBefore s = some (.next s.dropInput) := by simp [heldBefore, hr, hs, hsc]
  rw [step, hheld]

/-- Settles O54: neither the hold, nor the fetch, nor the instruction, nor the latching reads the history. -/
theorem historyInfluencesNothing : Obligations.HistoryInfluencesNothing := by
  intro s t h hstep
  obtain ⟨f, hs, hr, hsc, rfl⟩ | ⟨i, u, hfree, hf, hu, rfl⟩ := step_next_cases hstep
  · exact ⟨h, step_of_stuck (s := s.withHistory h) hs hr hsc⟩
  · obtain ⟨h', hu'⟩ := exec_withHistory i h hu
    have hstep' := step_of_fetch (s := s.withHistory h) hfree hf hu'
    rw [finishStep_withHistory] at hstep'
    exact ⟨h', hstep'⟩

end Sys2Proof.Machine
end

section
/-! PROOFS. The encoder and the decoder, the word each state fetches, and the frames of a cycle (family
`30_encoding.md`). -/

namespace Sys2Proof

/-! ### The bytes that carry a word -/

theorem addressByte_getLsbD (r : Bool) (a : Addr) : (addressByte r a).getLsbD 7 = r := by
  simp only [addressByte, BitVec.getLsbD_append, BitVec.getLsbD_ofBool]
  rfl

theorem addressByte_extract (r : Bool) (a : Addr) : (addressByte r a).extractLsb' 0 7 = a :=
  BitVec.extractLsb'_append_eq_right

/-- Bit 7 and the low seven bits are all of an address byte (30_encoding.md R71). -/
theorem addressByte_of_bits : ∀ b : Byte, addressByte (b.getLsbD 7) (b.extractLsb' 0 7) = b := by decide

theorem eventByte_of_bits {b : Byte} (h : b.extractLsb' 3 5 = 0) : eventByte (b.extractLsb' 0 3) = b := by
  rw [eventByte, ← h]
  exact BitVec.extractLsb'_append_extractLsb' (w := 5) (len := 3)

theorem phaseByte_of_bits {b : Byte} (h : b.extractLsb' 4 4 = 0) : phaseByte (b.extractLsb' 0 4) = b := by
  rw [phaseByte, ← h]
  exact BitVec.extractLsb'_append_extractLsb' (w := 4) (len := 4)

/-! ### Decoding each kind of word -/

theorem decodeFrame_addressByte (r : Bool) (a : Addr) (d : Byte) :
    decodeFrame (addressByte r a) d = if r then .readReg a d else .writeReg a d := by
  rw [decodeFrame, addressByte_getLsbD, addressByte_extract]

theorem decode_eventByte_cons (ev : EventVec) (rest : List Byte) :
    decode .event (eventByte ev :: rest) = (decodeEvent ev).map (·, rest) := by
  have hhigh : (eventByte ev).extractLsb' 3 5 = 0 := BitVec.extractLsb'_append_eq_left
  have hlow : (eventByte ev).extractLsb' 0 3 = ev := BitVec.extractLsb'_append_eq_right
  rw [decode, if_pos hhigh, hlow]
  cases decodeEvent ev <;> rfl

theorem decode_phaseByte_cons (p : PhaseCode) (rest : List Byte) :
    decode .phase (phaseByte p :: rest) = .ok (decodePhase p, rest) := by
  have hhigh : (phaseByte p).extractLsb' 4 4 = 0 := BitVec.extractLsb'_append_eq_left
  have hlow : (phaseByte p).extractLsb' 0 4 = p := BitVec.extractLsb'_append_eq_right
  rw [decode, if_pos hhigh, hlow]

/-- A byte taken as an event is the byte of an event vector that decodes. -/
theorem decode_event_eq_ok {bytes rest : List Byte} {i : Instr} (h : decode .event bytes = .ok (i, rest)) :
    ∃ ev, decodeEvent ev = .ok i ∧ bytes = eventByte ev :: rest := by
  match bytes with
  | [] => cases h
  | b :: bs =>
    rw [decode] at h
    split at h
    case isFalse => cases h
    case isTrue hhigh =>
      cases hev : decodeEvent (b.extractLsb' 0 3) with
      | error e => rw [hev] at h; cases h
      | ok j =>
        rw [hev] at h
        cases h
        exact ⟨_, hev, by rw [eventByte_of_bits hhigh]⟩

/-- A byte taken as a phase is the byte of a phase code. -/
theorem decode_phase_eq_ok {bytes rest : List Byte} {i : Instr} (h : decode .phase bytes = .ok (i, rest)) :
    ∃ p, decodePhase p = i ∧ bytes = phaseByte p :: rest := by
  match bytes with
  | [] => cases h
  | b :: bs =>
    rw [decode] at h
    split at h
    case isFalse => cases h
    case isTrue hhigh =>
      cases h
      exact ⟨_, rfl, by rw [phaseByte_of_bits hhigh]⟩

/-- The codes from 0xC on decode to themselves as reserved phases (30_encoding.md R80). -/
theorem decodePhase_reserved : ∀ c : PhaseCode, (Instr.reservedPhase c).WellFormed →
    decodePhase c = .reservedPhase c := by decide

/-- Settles O1: each format's decoder, at the byte that the encoder of that format lays. -/
theorem encodedInstructionDecodesToItself : Obligations.EncodedInstructionDecodesToItself := by
  intro i rest hwf
  cases i with
  | readReg a d => exact congrArg (Except.ok <| Prod.mk · rest) (decodeFrame_addressByte true a d)
  | writeReg a v => exact congrArg (Except.ok <| Prod.mk · rest) (decodeFrame_addressByte false a v)
  | reset c t =>
    have hev : ∀ c t, decodeEvent (eventVec true c t) = .ok (.reset c t) := by decide
    exact (decode_eventByte_cons _ rest).trans (by rw [hev]; rfl)
  | tick | cal | tickCal => exact decode_eventByte_cons _ rest
  | reservedPhase c => exact (decode_phaseByte_cons c rest).trans (by rw [decodePhase_reserved c hwf])
  | _ => exact decode_phaseByte_cons _ rest

/-! ### Encoding what was decoded -/

/-- `i` is the instruction of format `f` whose word is `bytes`. -/
def HasWord (f : Format) (bytes : List Byte) (i : Instr) : Prop :=
  i.WellFormed ∧ formatOf i = f ∧ encode i = bytes

theorem decodeFrame_hasWord (b0 b1 : Byte) : HasWord .frame [b0, b1] (decodeFrame b0 b1) := by
  have hb0 := addressByte_of_bits b0
  unfold decodeFrame
  split
  case isTrue hread => rw [hread] at hb0; exact ⟨rfl, rfl, by rw [encode, hb0]⟩
  case isFalse hwrite =>
    rw [Bool.eq_false_of_not_eq_true hwrite] at hb0
    exact ⟨rfl, rfl, by rw [encode, hb0]⟩

theorem decodeEvent_hasWord {ev : EventVec} {i : Instr} (h : decodeEvent ev = .ok i) :
    HasWord .event [eventByte ev] i := by
  have hreset : ∀ ev : EventVec, ev.getLsbD 2 = true → eventVec true (ev.getLsbD 1) (ev.getLsbD 0) = ev := by decide
  unfold decodeEvent at h
  split_ifs at h with hrst htick hcal htickCal <;> cases h
  · exact ⟨rfl, rfl, by rw [encode, hreset ev hrst]⟩
  · exact ⟨rfl, rfl, by rw [htick]; rfl⟩
  · exact ⟨rfl, rfl, by rw [hcal]; rfl⟩
  · exact ⟨rfl, rfl, by rw [htickCal]; rfl⟩

theorem decodePhase_hasWord (p : PhaseCode) : HasWord .phase [phaseByte p] (decodePhase p) := by
  revert p
  unfold HasWord
  decide

/-- Settles O2: what each format's decoder takes is the word of the instruction that it answers. -/
theorem decodedWordIsTheInstructionsOwn : Obligations.DecodedWordIsTheInstructionsOwn := by
  intro f bytes rest i h
  suffices hword : ∃ word, bytes = word ++ rest ∧ HasWord f word i by
    obtain ⟨word, rfl, hwf, hformat, rfl⟩ := hword
    exact ⟨hwf, hformat, rfl⟩
  cases f with
  | frame =>
    match bytes with
    | [] | [_] => cases h
    | b0 :: b1 :: _ => cases h; exact ⟨[b0, b1], rfl, decodeFrame_hasWord b0 b1⟩
  | event =>
    obtain ⟨ev, hev, hbytes⟩ := decode_event_eq_ok h
    exact ⟨_, hbytes, decodeEvent_hasWord hev⟩
  | phase =>
    obtain ⟨p, rfl, hbytes⟩ := decode_phase_eq_ok h
    exact ⟨_, hbytes, decodePhase_hasWord p⟩

/-! ### The tables of the spec -/

/-- Settles O3: bit 7 of the first byte is what `decodeFrame` tests. -/
theorem frameBit15TellsReadFromWrite : Obligations.FrameBit15TellsReadFromWrite := by
  refine ⟨fun b0 b1 rest => ?_, fun _ => rfl, rfl⟩
  have hbit : b0.getLsbD 7 = decide (128 ≤ b0.toNat) := b0.msb_eq_decide
  have haddr : b0.extractLsb' 0 7 = BitVec.ofNat 7 b0.toNat := rfl
  rw [decode, decodeFrame, hbit, haddr]
  simp only [decide_eq_true_eq]

/-- Settles O4: the eight event vectors. -/
theorem eventVectorTable : Obligations.EventVectorTable := by
  unfold Obligations.EventVectorTable
  decide

/-- Settles O5: the sixteen phase codes. -/
theorem phaseCodeTable : Obligations.PhaseCodeTable := by
  unfold Obligations.PhaseCodeTable
  decide

/-- Settles O6: nine words that the decoder reads. -/
theorem specWordsDecode : Obligations.SpecWordsDecode := by
  unfold Obligations.SpecWordsDecode
  decide

end Sys2Proof

namespace Sys2Proof.Machine

/-! ### The word that a state fetches -/

theorem fetch_of_fetchesEvent {s : State} (h : s.fetchesEvent = true) : s.fetch = decodeEvent s.eventVector := by
  rw [State.fetch, State.fetchFormat, State.fetchBytes, if_pos h, if_pos h, decode_eventByte_cons]
  cases decodeEvent s.eventVector <;> rfl

/-- Settles O7: with rst = 1, or in IDLE with a request pending, the event vector is fetched; otherwise the phase. -/
theorem sequencerDecodesEventsOnlyInIdle : Obligations.SequencerDecodesEventsOnlyInIdle := by
  intro s
  have pending : ∀ c t : Bool, (c || t) = true → decodeEvent (eventVec false c t) =
      .ok (if c && t then .tickCal else if c then .cal else if t then .tick else .idle) := by decide
  cases hr : s.now.rst with
  | true => exact fetch_reset hr
  | false =>
    by_cases hp : s.phase = Phase.idle
    case neg => rw [fetch_phase hr (.inl hp), if_neg hp]; rfl
    case pos =>
      rw [if_pos hp]
      by_cases hq : (s.calPend || s.tickPend) = true
      · have he : s.fetchesEvent = true := by simp [State.fetchesEvent, hp, hq]
        rw [fetch_of_fetchesEvent he, State.eventVector, hr]
        exact pending _ _ hq
      · obtain ⟨hc, ht⟩ : s.calPend = false ∧ s.tickPend = false := by simpa using hq
        rw [fetch_phase hr (.inr ⟨hc, ht⟩), hp, hc, ht]
        rfl

/-! ### Bus phases and frames -/

/-- Before T2 a bus phase does nothing of its own. -/
theorem onResult_transact_of_not_complete {s : State} (h : ¬ (s.bstep = BStep.data ∧ s.now.busDone = true))
    (b0 b1 : Byte) (k : State → Byte → State) : onResult (transact s b0 b1) k = (transact s b0 b1).1 := by
  obtain ⟨-, e⟩ | ⟨-, -, e⟩ | ⟨hb, hd, -⟩ | ⟨-, -, e⟩ | ⟨-, e⟩ := transact_cases s b0 b1
  case inr.inr.inl => exact absurd ⟨hb, hd⟩ h
  all_goals rw [e]; rfl

/-- Settles O14: each phase is the transaction of its frame, and what it does with the result comes in T2. -/
theorem busPhasesIssueTheirParametersFrame : Obligations.BusPhasesIssueTheirParametersFrame := by
  intro s h
  simp [readPhase, writePhase, onResult_transact_of_not_complete h]

/-! ### Placed words -/

theorem step_eq_afterExec {s : State} {i : Instr} (hfree : s.stuck = none ∨ s.now.rst = true)
    (hf : s.fetch = .ok i) : step s = afterExec s (exec i s) := by
  obtain ⟨u, hu⟩ := exec_answers_next i s
  rw [step_of_fetch hfree hf hu, hu]
  rfl

/-- A state with the script of a ready one has no reset in its ports. -/
theorem now_rst_of_ready {s t : State} (hsc : t.script = s.ready.script) : t.now.rst = false := by
  unfold State.now
  rw [hsc, State.ready]
  cases s.script <;> rfl

/-- With the ports and the controller of a ready state, a phase that takes no event is run. -/
theorem step_of_ready {s t : State} (hs : t.stuck = none) (hsc : t.script = s.ready.script)
    (hp : t.phase ≠ Phase.idle ∨ (t.calPend = false ∧ t.tickPend = false)) :
    step t = afterExec t (exec (decodePhase t.phase) t) :=
  step_eq_afterExec (.inl hs) (fetch_phase (now_rst_of_ready hsc) hp)

/-- A placed frame's fields are the parameters of the phase placed with it, and that phase issues their frame. -/
theorem step_placeFrame {s : State} (hb : s.bstep = BStep.idle) (b0 b1 : Byte) :
    step (s.placeFrame b0 b1) = afterExec (s.placeFrame b0 b1) (exec (decodeFrame b0 b1) (s.placeFrame b0 b1)) := by
  have issue {t : State} {p : PhaseCode} {i : Instr} (hs : t.stuck = none) (hsc : t.script = s.ready.script)
      (hp : t.phase = p) (hidle : p ≠ Phase.idle) (hi : exec (decodePhase p) t = exec i t) :
      step t = afterExec t (exec i t) := by
    rw [step_of_ready hs hsc (.inl (hp ▸ hidle)), hp, hi]
  have read {t : State} (ht : t.bstep = BStep.idle) :
      exec .rdXL t = exec (.readReg t.cfg.addrXL t.cfg.readDummy) t := by simp [readPhase, transact_idle ht]
  have write {t : State} (ht : t.bstep = BStep.idle) :
      exec .initW1 t = exec (.writeReg t.cfg.cfg1Addr t.cfg.cfg1Val) t := by simp [writePhase, transact_idle ht]
  unfold State.placeFrame decodeFrame
  split
  · exact issue (p := Phase.rdXL) rfl rfl rfl (by decide) (read hb)
  · exact issue (p := Phase.initW1) rfl rfl rfl (by decide) (write hb)

/-- The reset bit and the two flags are all of an event vector (30_encoding.md R76). -/
theorem eventVec_of_bits : ∀ ev : EventVec, eventVec (ev.getLsbD 2) (ev.getLsbD 1) (ev.getLsbD 0) = ev := by decide

/-- A placed event vector is the one fetched. -/
theorem step_placeEvent {s : State} {ev : EventVec} {i : Instr} (h : decodeEvent ev = .ok i) :
    step (s.placeEvent ev) = afterExec (s.placeEvent ev) (exec i (s.placeEvent ev)) := by
  have requested : ∀ ev : EventVec, ev.getLsbD 2 = false → (ev.getLsbD 1 || ev.getLsbD 0) = false →
    decodeEvent ev = .error .noEvent := by decide
  obtain ⟨hfree, hfetches, hvector⟩ : ((s.placeEvent ev).stuck = none ∨ (s.placeEvent ev).now.rst = true) ∧
      (s.placeEvent ev).fetchesEvent = true ∧ (s.placeEvent ev).eventVector = ev := by
    unfold State.placeEvent
    split
    case isTrue hrst =>
      exact ⟨.inr rfl, rfl, (congrArg (eventVec · _ _) hrst.symm).trans (eventVec_of_bits ev)⟩
    case isFalse hrst =>
      rw [Bool.not_eq_true] at hrst
      have hpending : (ev.getLsbD 1 || ev.getLsbD 0) = true := by
        by_contra hnone
        rw [requested ev hrst (by simpa using hnone)] at h
        cases h
      exact ⟨.inl rfl, Bool.or_eq_true_iff.2 (.inr hpending),
        (congrArg (eventVec · _ _) ((now_rst_of_ready (s := s) rfl).trans hrst.symm)).trans (eventVec_of_bits ev)⟩
  exact step_eq_afterExec hfree ((fetch_of_fetchesEvent hfetches).trans (by rw [hvector, h]))

/-- A placed phase code is the one fetched. -/
theorem step_placePhase (s : State) (p : PhaseCode) :
    step (s.placePhase p) = afterExec (s.placePhase p) (exec (decodePhase p) (s.placePhase p)) := by
  refine step_of_ready (s := s) rfl rfl ?_
  by_cases hp : p = Phase.idle
  · exact .inr ⟨if_pos hp, if_pos hp⟩
  · exact .inl hp

theorem decodeTableWord_eq_some {nbits w : Nat} {i : Instr} (h : decodeTableWord nbits w = some i) :
    ∃ f rest, tableFormat nbits = some f ∧ decode f (tableBytes f w) = .ok (i, rest) := by
  unfold decodeTableWord at h
  split at h
  case h_1 => cases h
  case h_2 f hf =>
    split at h
    case h_1 j rest hdec => cases h; exact ⟨f, rest, hf, hdec⟩
    case h_2 => cases h

/-- Settles O9: a frame, an event vector and a phase code are each placed where the fetch finds them. -/
theorem placedWordIsRunByTheNextStep : Obligations.PlacedWordIsRunByTheNextStep := by
  intro s nbits w i h hidle
  obtain ⟨f, rest, hf, hdec⟩ := decodeTableWord_eq_some h
  rw [State.withFetchWord, State.placeWord, hf]
  cases f with
  | frame =>
    have h16 : nbits = 16 := by
      unfold tableFormat at hf
      split_ifs at hf with h16
      · exact h16
      all_goals cases hf
    cases hdec
    exact step_placeFrame (hidle h16) _ _
  | event =>
    obtain ⟨ev, hev, hbytes⟩ := decode_event_eq_ok hdec
    have low : ∀ ev : EventVec, (eventByte ev).setWidth 3 = ev := by decide
    have hw : BitVec.ofNat 3 w = ev := by
      rw [← low ev, ← (List.cons.inj hbytes).1, BitVec.setWidth_ofNat_of_le (by decide)]
    exact step_placeEvent (hw ▸ hev)
  | phase =>
    obtain ⟨p, rfl, hbytes⟩ := decode_phase_eq_ok hdec
    have low : ∀ p : PhaseCode, (phaseByte p).setWidth 4 = p := by decide
    have hw : BitVec.ofNat 4 w = p := by
      rw [← low p, ← (List.cons.inj hbytes).1, BitVec.setWidth_ofNat_of_le (by decide)]
    exact hw ▸ step_placePhase s _

/-! ### Reserved codes -/

theorem exec_of_reserved {i : Instr} {s : State} (hb : s.bstep = BStep.reserved) (hreset : ∀ c k, i ≠ .reset c k)
    (hphase : ∀ c, i ≠ .reservedPhase c) : exec i s = .next (s.raise (.reservedBStep s.bstep)) := by
  cases i with
  | reset c k => exact absurd rfl (hreset c k)
  | reservedPhase c => exact absurd rfl (hphase c)
  | readReg | writeReg => exact congrArg (Host.Outcome.next ·.1) (transact_reserved hb _ _)
  | tick | cal | tickCal | idle | map | debounce | calib =>
    exact congrArg Host.Outcome.next (unlessReserved_reserved hb _)
  | _ => exact congrArg (Host.Outcome.next <| onResult · _) (transact_reserved hb _ _)

/-- Settles O46: each code raises its fault, which `raise` records; RESERVED_PHASE with bstep 3 raises both. -/
theorem reservedCodesRecordFaultAndNothingElse : Obligations.ReservedCodesRecordFaultAndNothingElse := by
  have recorded (f : Fault) (s : State) : f ∈ (s.raise f).faults := (mem_insertFault ..).2 (.inl rfl)
  refine ⟨fun c s hb => ?_, fun i s hb hreset => ?_⟩
  · exact ⟨_, congrArg Host.Outcome.next (unlessReserved_legal (s := s.raise _) hb id), recorded _ s, rfl, rfl⟩
  · obtain ⟨c, rfl⟩ | hphase := em (∃ c, i = .reservedPhase c)
    · have hu := unlessReserved_reserved (s := s.raise (.reservedPhase c)) hb id
      rw [State.raise_bstep, hb] at hu
      refine ⟨_, congrArg Host.Outcome.next hu, recorded _ _, rfl, rfl, ?_⟩
      rintro _ ⟨⟩
      exact (mem_insertFault ..).2 (.inr (recorded _ s))
    · rw [not_exists] at hphase
      have hx := exec_of_reserved hb hreset hphase
      rw [hb] at hx
      exact ⟨_, hx, recorded _ s, rfl, rfl, fun c hc => absurd hc (hphase c)⟩

/-- A legal state holds no reserved code, so the controller's own transition records no fault. -/
theorem Move.faults_of_legal {s u : State} (h : Move s u) (hlegal : s.Legal) : u.faults = s.faults := by
  obtain ⟨-, hphase, hbstep, -⟩ := hlegal
  cases h with
  | reserved _ _ hr => exact absurd hr (not_or.2 ⟨hbstep, by omega⟩)
  | _ => rfl

/-- Latching adds no fault but the overrun's. -/
theorem mem_latchTick_faults {s t : State} {f : Fault} (h : f ∈ (latchTick s t).faults) :
    f ∈ t.faults ∨ f = .tickOverrun s.phase s.tickPend := by
  cases ht : s.now.tick with
  | false => rw [latchTick_quiet ht] at h; exact .inl h
  | true =>
    cases ho : s.tickOverruns with
    | false => rw [latchTick_pend ht ho] at h; exact .inl h
    | true => rw [latchTick_overrun ht ho] at h; exact ((mem_insertFault ..).1 h).symm

/-- A step from a legal state records no fault but an overrun. -/
theorem mem_faults_of_step_legal {s t : State} {f : Fault} (hlegal : s.Legal) (hstep : step s = .next t)
    (hf : f ∈ t.faults) : f ∈ s.faults ∨ f = .tickOverrun s.phase s.tickPend := by
  obtain ⟨-, rfl⟩ | ⟨-, -, rfl⟩ | ⟨-, -, u, hmove, rfl⟩ := step_cases hstep
  · exact .inl hf
  · exact .inl hf
  · exact hmove.faults_of_legal hlegal ▸ mem_latchTick_faults hf

/-- Settles O53: the one fault that a step from a legal state can record is the overrun. -/
theorem legalStatesNeverRecordReservedState : Obligations.LegalStatesNeverRecordReservedState := by
  intro s t hlegal hstep
  exact ⟨fun _ hc => (mem_faults_of_step_legal hlegal hstep hc).resolve_right nofun,
    fun _ hc => (mem_faults_of_step_legal hlegal hstep hc).resolve_right nofun⟩

/-! ### The six reads of a cycle -/

/-- Phase `p` reads the register that parameter `a` names, and then does `k` with the byte; of `calPrev` and the script
`k` writes neither and reads nothing. -/
structure ReadsRegister (p : PhaseCode) (a : Config.Params → Addr) (k : State → Byte → State) : Prop where
  busy : p ≠ Phase.idle
  exec_eq : ∀ t, exec (decodePhase p) t = .next (readPhase t (a t.cfg) k)
  calPrev : ∀ t d, (k t d).calPrev = t.calPrev
  withScript : ∀ t d l, k (t.withScript l) d = (k t d).withScript l

theorem rdXL_readsRegister : ReadsRegister Phase.rdXL (·.addrXL) (·.takeLow · Phase.rdXH) :=
  ⟨by decide, fun _ => rfl, fun _ _ => rfl, fun _ _ _ => rfl⟩

theorem rdXH_readsRegister : ReadsRegister Phase.rdXH (·.addrXH) State.takeHighX :=
  ⟨by decide, fun _ => rfl, fun _ _ => rfl, fun _ _ _ => rfl⟩

theorem rdYL_readsRegister : ReadsRegister Phase.rdYL (·.addrYL) (·.takeLow · Phase.rdYH) :=
  ⟨by decide, fun _ => rfl, fun _ _ => rfl, fun _ _ _ => rfl⟩

theorem rdYH_readsRegister : ReadsRegister Phase.rdYH (·.addrYH) State.takeHighY :=
  ⟨by decide, fun _ => rfl, fun _ _ => rfl, fun _ _ _ => rfl⟩

theorem rdZL_readsRegister : ReadsRegister Phase.rdZL (·.addrZL) (·.takeLow · Phase.rdZH) :=
  ⟨by decide, fun _ => rfl, fun _ _ => rfl, fun _ _ _ => rfl⟩

theorem rdZH_readsRegister : ReadsRegister Phase.rdZH (·.addrZH) State.takeHighZ :=
  ⟨by decide, fun _ => rfl, fun _ _ => rfl, fun _ _ _ => rfl⟩

/-- What a read of register `a` that brings `b` records. -/
def readEntry (cfg : Config.Params) (a : Addr) (b : Byte) : HistEvent :=
  .transaction a (addressByte true a) cfg.readDummy b

/-- `s` when its read of register `a` has brought the byte `b`, before its phase takes the byte. -/
def State.afterRead (s : State) (a : Addr) (b : Byte) (rest : List Inputs) : State :=
  { s with bstep := BStep.idle, csN := true, busGo := false, busTx := s.cfg.readDummy
           history := readEntry s.cfg a b :: s.history
           script := rest }

/-- A run whose first three steps are a read whose exchanges complete at once. -/
theorem ReadsRegister.steps_add {p : PhaseCode} {a : Config.Params → Addr} {k : State → Byte → State}
    (h : ReadsRegister p a k) {s : State} {junk b : Byte} {rest : List Inputs} {n : Nat} (hs : s.stuck = none)
    (hb : s.bstep = BStep.idle) (hp : s.phase = p)
    (hsc : s.script = transactionScript s.calPrev junk b ++ rest) :
    steps (3 + n) s = steps n (k (s.afterRead (a s.cfg) b rest) b) := by
  have hscript (t : State) (d : Byte) : (k t d).script = t.script := congrArg (·.script) (h.withScript t d t.script)
  have hx (t : State) (htp : t.phase = s.phase) (hcfg : t.cfg = s.cfg) : exec (decodePhase t.phase) t =
      .next (onResult (transact t (addressByte true (a s.cfg)) s.cfg.readDummy) k) := by
    rw [htp, hp, h.exec_eq, readPhase, hcfg]
  rw [Machine.steps_add 3 n s _ (steps_transaction _ _ junk b k rest hs hb (hp ▸ h.busy) hsc hx
    fun t d => ⟨h.calPrev t d, hscript t d⟩)]
  refine congrArg (steps n) ((h.withScript _ b rest).symm.trans (congrArg (k · b) ?_))
  rw [State.transacted, addressByte_extract]
  rfl

/-- What the six reads of a reading record, newest first. -/
def readEntries (cfg : Config.Params) (r : Reading) : List HistEvent :=
  [readEntry cfg cfg.addrZH r.zh, readEntry cfg cfg.addrZL r.zl, readEntry cfg cfg.addrYH r.yh,
    readEntry cfg cfg.addrYL r.yl, readEntry cfg cfg.addrXH r.xh, readEntry cfg cfg.addrXL r.xl]

/-- `s` when a reading has been sampled, and MAP is next. -/
def State.sampled (s : State) (r : Reading) (rest : List Inputs) : State :=
  { s with sx := assemble r.xl r.xh, sy := assemble r.yl r.yh, sz := assemble r.zl r.zh, loBuf := r.zl
           phase := Phase.map, bstep := BStep.idle, csN := true, busGo := false, busTx := s.cfg.readDummy
           history := readEntries s.cfg r ++ s.history
           script := rest }

/-- 41_acquisition.md R121: the six reads, each a transaction of three steps. -/
theorem steps_sampled {s : State} {junk : Byte} {r : Reading} {rest : List Inputs} (hs : s.stuck = none)
    (hb : s.bstep = BStep.idle) (hp : s.phase = Phase.rdXL)
    (hsc : s.script = transactionScript s.calPrev junk r.xl ++ (transactionScript s.calPrev junk r.xh ++
      (transactionScript s.calPrev junk r.yl ++ (transactionScript s.calPrev junk r.yh ++
        (transactionScript s.calPrev junk r.zl ++ (transactionScript s.calPrev junk r.zh ++ rest)))))) :
    steps 18 s = .next (s.sampled r rest) := by
  refine Eq.trans (rdXL_readsRegister.steps_add (n := 15) hs hb hp hsc) ?_
  refine Eq.trans (rdXH_readsRegister.steps_add (n := 12) hs rfl rfl rfl) ?_
  refine Eq.trans (rdYL_readsRegister.steps_add (n := 9) hs rfl rfl rfl) ?_
  refine Eq.trans (rdYH_readsRegister.steps_add (n := 6) hs rfl rfl rfl) ?_
  refine Eq.trans (rdZL_readsRegister.steps_add (n := 3) hs rfl rfl rfl) ?_
  exact rdZH_readsRegister.steps_add (n := 0) hs rfl rfl rfl

/-! ### The whole cycle -/

/-- With no reset and cal_in at its last level, the close of a step latches the TICK alone. -/
theorem finishStep_steadyCal {s u : State} (hr : s.now.rst = false) (hl : s.now.calIn = s.calPrev)
    (huc : u.calPrev = s.calPrev) : finishStep s u = (latchTick s u).dropInput := by
  have hcal : latchCal s (latchTick s u) = latchTick s u := by
    unfold latchCal
    rw [hl, calEdge_self, Bool.or_false, ← huc, ← latchTick_calPrev s u]
  rw [finishStep_latch hr, hcal]

/-- A TICK that arrives at rest waits for the next step (60_exceptions.md R241). -/
theorem step_tick_arrives {s : State} {rest : List Inputs} (hrest : s.AtRest)
    (hsc : s.script = tickInput s.calPrev :: rest) :
    step s = .next { s with tickPend := true, script := rest } := by
  obtain ⟨⟨hs, hp, hb, ht, hc⟩, -, -⟩ := hrest
  have hnow : s.now = tickInput s.calPrev := by rw [State.now, hsc]
  have hfetch : s.fetch = .ok .idle := by rw [fetch_phase (by rw [hnow]; rfl) (.inr ⟨hc, ht⟩), hp]; rfl
  have hidle : exec .idle s = .next s := by rw [exec_idle_pending (by rw [hb]; decide) hp, hc, ht]
  have hlatch : s.tickOverruns = false := by rw [State.tickOverruns, hp, ht]; rfl
  rw [step_of_fetch (.inl hs) hfetch hidle, finishStep_steadyCal (by rw [hnow]; rfl) (by rw [hnow]; rfl) rfl,
    latchTick_pend (by rw [hnow]; rfl) hlatch, State.dropInput, hsc]
  rfl

/-- `s` when the TICK that arrived in it has been taken. -/
def State.started (s : State) (rest : List Inputs) : State := { s.acceptTick with script := rest }

/-- A pending tick is taken in IDLE (60_exceptions.md R245). -/
theorem step_tick_taken {s : State} {rest : List Inputs} (hs : s.stuck = none) (hp : s.phase = Phase.idle)
    (hb : s.bstep = BStep.idle) (ht : s.tickPend = true) (hc : s.calPend = false)
    (hsc : s.script = quietInput s.calPrev :: rest) : step s = .next (s.started rest) := by
  have hnow : s.now = quietInput s.calPrev := by rw [State.now, hsc]
  have hr : s.now.rst = false := by rw [hnow]; rfl
  have htick : exec .tick s = .next s.acceptTick := by rw [exec_tick, inIdle_idle (by rw [hb]; decide) hp]
  rw [step_of_fetch (.inl hs) (fetch_tick hr hp hc ht) htick,
    finishStep_steadyCal hr (by rw [hnow]; rfl) s.acceptTick_calPrev, latchTick_quiet (by rw [hnow]; rfl),
    State.dropInput, State.acceptTick_script, hsc]
  rfl

/-- The TICK arrives, and is taken in the next step. -/
theorem steps_started {s : State} {rest : List Inputs} (hrest : s.AtRest)
    (hsc : s.script = tickInput s.calPrev :: quietInput s.calPrev :: rest) : steps 2 s = .next (s.started rest) := by
  have arrives := step_tick_arrives hrest hsc
  obtain ⟨⟨hs, hp, hb, -, hc⟩, -, -⟩ := hrest
  have taken := step_tick_taken (s := { s with tickPend := true, script := quietInput s.calPrev :: rest })
    hs hp hb rfl hc rfl
  simp only [steps, arrives, taken]
  rfl

/-- `s` at rest again, when the cycle of its TICK has brought the reading `r`. -/
def State.cycled (s : State) (r : Reading) (rest : List Inputs) : State :=
  ((s.started rest).sampled r rest).commitOutputs.debounced

/-- MAP and DEBOUNCE, one step each. -/
theorem steps_mapped {s : State} {rest : List Inputs} (hs : s.stuck = none) (hb : s.bstep = BStep.idle)
    (hp : s.phase = Phase.map) (hsc : s.script = quietInput s.calPrev :: quietInput s.calPrev :: rest) :
    steps 2 s = .next { s.commitOutputs.debounced with script := rest } := by
  have hmap : exec (decodePhase s.phase) s = .next s.commitOutputs := by
    rw [hp]; exact congrArg Host.Outcome.next (unlessReserved_legal (by rw [hb]; decide) _)
  have hdebounce (t : State) (ht : t.bstep = BStep.idle) : exec .debounce t = .next t.debounced :=
    congrArg Host.Outcome.next (unlessReserved_legal (by rw [ht]; decide) _)
  have mapped : step s = .next (s.commitOutputs.withScript (quietInput s.calPrev :: rest)) :=
    step_quiet hs hsc rfl rfl rfl (.inl (by rw [hp]; decide)) hmap rfl rfl
  have debounced := step_quiet (s := s.commitOutputs.withScript (quietInput s.calPrev :: rest)) hs rfl rfl rfl rfl
    (.inl (by decide : Phase.debounce ≠ _)) (hdebounce _ hb) rfl rfl
  simp only [steps, mapped, debounced]
  rfl

/-- The 22 steps of a cycle with a bus that completes at once (46_scheduler.md R221, R227). -/
theorem steps_cycled {s : State} {junk : Byte} {r : Reading} {rest : List Inputs} (hrest : s.AtRest)
    (hsc : s.script = cycleScript s.calPrev junk r ++ rest) : steps 22 s = .next (s.cycled r rest) := by
  have started : steps 2 s = .next (s.started (readingScript s.calPrev junk r ++ rest)) :=
    steps_started hrest hsc
  obtain ⟨⟨hs, -, hb, -⟩, -⟩ := hrest
  have sampled := steps_sampled (s := s.started (readingScript s.calPrev junk r ++ rest)) (junk := junk) (r := r)
    (rest := quietInput s.calPrev :: quietInput s.calPrev :: rest) hs hb rfl (by
      simp only [State.started, State.acceptTick_calPrev, readingScript, List.append_assoc]
      rfl)
  rw [steps_add 2 20 _ _ started, steps_add 18 2 _ _ sampled]
  exact steps_mapped hs rfl rfl rfl

theorem filterMap_frame_changes (old new : State) : (changes old new).filterMap HistEvent.frame = [] := by
  unfold changes
  split_ifs <;> rfl

/-- What the cycle of a TICK at rest records, newest first: MAP and DEBOUNCE what they change. -/
def State.cycleEntries (s : State) (r : Reading) (rest : List Inputs) : List HistEvent :=
  changes ((s.started rest).sampled r rest).commitOutputs (s.cycled r rest) ++
    changes ((s.started rest).sampled r rest) ((s.started rest).sampled r rest).commitOutputs ++
    readEntries s.cfg r ++ [.tickTaken]

theorem State.cycled_history (s : State) (r : Reading) (rest : List Inputs) :
    (s.cycled r rest).history = s.cycleEntries r rest ++ s.history := by
  simp only [cycleEntries, List.append_assoc]
  rfl

/-- Settles O58: the six reads record their frames, and the acceptance, MAP and DEBOUNCE record none. -/
theorem cycleSendsItsSixFramesInOrder : Obligations.CycleSendsItsSixFramesInOrder := by
  intro s junk r rest hrest hsc
  refine ⟨_, _, steps_cycled hrest hsc, s.cycled_history r rest, ?_⟩
  rw [List.filterMap_reverse, State.cycleEntries]
  simp only [List.filterMap_append, filterMap_frame_changes]
  rfl

end Sys2Proof.Machine
end

section
/-! PROOFS. The two bus frames, the byte that comes with the address byte, and the hold of a silent bus (family
`40_serial_protocol.md`). -/

namespace Sys2Proof.Machine

/-! ### The two frames -/

theorem addressByte_read : ∀ a : Addr, addressByte true a = BitVec.ofNat 8 (128 + a.toNat) := by decide

theorem addressByte_write : ∀ a : Addr, addressByte false a = BitVec.ofNat 8 a.toNat := by decide

/-- The three steps and the two waits of an instruction that is the transaction of one frame (40_serial_protocol.md
R104, R106, R107). -/
theorem exec_frame_steps {i : Instr} {r : Bool} {a : Addr} {d : Byte} {s : State}
    (hx : exec i s = .next (transact s (addressByte r a) d).1) :
    (s.bstep = BStep.idle → exec i s = .next
      { s with csN := false, busTx := addressByte r a, busGo := true, bstep := BStep.addr }) ∧
    (s.bstep = BStep.addr → s.now.busDone = true → exec i s = .next
      { s with busTx := d, busGo := true, bstep := BStep.data }) ∧
    (s.bstep = BStep.data → s.now.busDone = true → exec i s = .next
      { s with csN := true, busGo := false, bstep := BStep.idle
               history := .transaction a (addressByte r a) d s.now.busRx :: s.history }) ∧
    (s.bstep = BStep.addr ∨ s.bstep = BStep.data → s.now.busDone = false → exec i s = .next
      { s with busGo := false }) := by
  rw [hx]
  refine ⟨fun hb => ?_, fun hb hd => ?_, fun hb hd => ?_, ?_⟩
  · rw [transact_idle hb]; rfl
  · rw [transact_addr_done hb hd]; rfl
  · rw [transact_data_done hb hd, State.completeBus, addressByte_extract]
  · rintro (hb | hb) hd
    · rw [transact_addr_wait hb hd]; rfl
    · rw [transact_data_wait hb hd]; rfl

/-- Settles O11: READ_REG is the transaction of its frame, whose address byte has bit 7 set. -/
theorem readRegRunsAddressThenDataThenDeselects : Obligations.ReadRegRunsAddressThenDataThenDeselects := by
  intro a d s
  rw [← addressByte_read]
  exact exec_frame_steps rfl

/-- Settles O12: WRITE_REG is the transaction of its frame, whose address byte has bit 7 clear. -/
theorem writeRegRunsAddressThenDataThenDeselects : Obligations.WriteRegRunsAddressThenDataThenDeselects := by
  intro a v s
  rw [← addressByte_write]
  exact exec_frame_steps rfl

/-- A transaction alone is one whose result no phase takes. -/
theorem onResult_const (r : State × Option Byte) : onResult r (fun t _ => t) = r.1 := by
  obtain ⟨t, _ | d⟩ := r <;> rfl

/-- Settles O13: with no reserved code a frame is T0, T1, a wait or T2, each a write of these alone. -/
theorem framesWriteOnlyTransactionRegisters : Obligations.FramesWriteOnlyTransactionRegisters := by
  intro i s t hf hb h
  cases i with
  | readReg | writeReg =>
    have hresult := (onResult_const _).trans (Host.Outcome.next.inj h)
    obtain rfl | rfl | rfl | rfl := onResult_transact_cases hb hresult <;> rfl
  | _ => cases hf

/-! ### The byte received with the address byte -/

/-- In BS_ADDR a transaction has no result, and it reads of the ports whether the exchange is done and not the byte. -/
theorem onResult_withScript_addr {s : State} {l : List Inputs} (hb : s.bstep = BStep.addr)
    (hd : (s.withScript l).now.busDone = s.now.busDone) (b0 b1 : Byte) (k : State → Byte → State) :
    onResult (transact (s.withScript l) b0 b1) k = (onResult (transact s b0 b1) k).withScript l := by
  cases hdone : s.now.busDone with
  | true => rw [transact_addr_done hb hdone, transact_addr_done (s := s.withScript l) hb (hd.trans hdone)]; rfl
  | false => rw [transact_addr_wait hb hdone, transact_addr_wait (s := s.withScript l) hb (hd.trans hdone)]; rfl

/-- Of the ports, the choice between two pending requests reads the order draw. -/
theorem acceptBoth_withScript_calFirst {s : State} {l : List Inputs}
    (h : (s.withScript l).now.calFirst = s.now.calFirst) : (s.withScript l).acceptBoth = s.acceptBoth.withScript l := by
  have hg : (s.withScript l).calGoesFirst = s.calGoesFirst := by
    unfold State.calGoesFirst
    rw [h]
    rfl
  unfold State.acceptBoth
  rw [hg]
  split <;> rfl

/-- In BS_ADDR no instruction reads the received byte: beside a transaction, RESET reads cal_in and an acceptance the
order draw. -/
theorem exec_withScript_addr (i : Instr) {s u : State} {l : List Inputs} {junk : Byte} (hb : s.bstep = BStep.addr)
    (h : (s.withScript l).now = { s.now with busRx := junk }) (hu : exec i s = .next u) :
    exec i (s.withScript l) = .next (u.withScript l) := by
  have hdone : (s.withScript l).now.busDone = s.now.busDone := by rw [h]
  have hboth := acceptBoth_withScript_calFirst (s := s) (l := l) (by rw [h])
  cases i <;> cases hu <;> refine congrArg Host.Outcome.next ?_
  case readReg | writeReg => simpa only [onResult_const] using onResult_withScript_addr hb hdone _ _ fun t _ => t
  case reset =>
    unfold State.applyReset State.resetRegs
    rw [h]
    rfl
  case tick | cal => exact inIdle_withScript s l rfl
  case tickCal => exact inIdle_withScript s l hboth
  case idle =>
    refine inIdle_withScript s l ?_
    rw [show (s.withScript l).calPend = s.calPend from rfl, show (s.withScript l).tickPend = s.tickPend from rfl]
    cases s.calPend <;> cases s.tickPend
    exacts [rfl, rfl, rfl, hboth]
  case map | debounce | calib => exact unlessReserved_withScript s l rfl
  case reservedPhase c => exact unlessReserved_withScript (s.raise (.reservedPhase c)) l rfl
  all_goals exact onResult_withScript_addr hb hdone _ _ _

/-- Settles O19: the script with another received byte carries the same on every port that is read in BS_ADDR. -/
theorem addressPhaseByteReachesNoRegister : Obligations.AddressPhaseByteReachesNoRegister := by
  intro i s e rest junk hsc hb
  obtain ⟨t, ht⟩ := exec_answers_next i s
  have hnow : s.now = e := by rw [State.now, hsc]
  exact ⟨t, ht, exec_withScript_addr i hb (by rw [hnow]; rfl) ht⟩

/-! ### The hold of a silent bus -/

/-- Every phase that uses the bus is one step of some transaction (40_serial_protocol.md R110). -/
theorem exec_busPhase {s : State} (hp : busPhase s.phase = true) :
    ∃ b0 b1 k, exec (decodePhase s.phase) s = .next (onResult (transact s b0 b1) k) := by
  have codes : ∀ p : PhaseCode, busPhase p = true → p = Phase.initW1 ∨ p = Phase.initW2 ∨ p = Phase.rdXL ∨
      p = Phase.rdXH ∨ p = Phase.rdYL ∨ p = Phase.rdYH ∨ p = Phase.rdZL ∨ p = Phase.rdZH := by decide
  obtain h | h | h | h | h | h | h | h := codes s.phase hp <;> rw [h] <;> exact ⟨_, _, _, rfl⟩

/-- The ports of a step in which no completion, reset or tick arrives. -/
def Inputs.Silent (e : Inputs) : Prop := e.busDone = false ∧ e.rst = false ∧ e.tick = false

/-- A waiting controller to which none of them arrives holds, and samples cal_in. -/
theorem step_holdBus {s : State} (hw : s.WaitsForBus) (hq : s.now.Silent) :
    step s = .next (latchCal s s.holdBus).dropInput := by
  obtain ⟨hs, hp, hb⟩ := hw
  obtain ⟨hd, hr, ht⟩ := hq
  obtain ⟨b0, b1, k, hx⟩ := exec_busPhase hp
  have hheld : transact s b0 b1 = (s.holdBus, none) :=
    hb.elim (transact_addr_wait · hd b0 b1) (transact_data_wait · hd b0 b1)
  rw [hheld, onResult_none] at hx
  have hbusy : s.phase ≠ Phase.idle := fun h => by rw [h] at hp; cases hp
  rw [step_of_fetch (.inl hs) (fetch_phase hr (.inl hbusy)) hx, finishStep_latch hr, latchTick_quiet ht]

/-- A script silent for `n + 1` steps is silent now, also past its end, and for `n` steps after this one. -/
theorem silent_of_take_succ {s : State} {n : Nat} (h : ∀ e ∈ s.script.take (n + 1), e.Silent) :
    s.now.Silent ∧ ∀ e ∈ s.script.tail.take n, e.Silent := by
  unfold State.now
  cases hsc : s.script with
  | nil => exact ⟨⟨rfl, rfl, rfl⟩, by simp⟩
  | cons e rest =>
    rw [hsc, List.take_succ_cons, List.forall_mem_cons] at h
    exact h

theorem steps_succ_of_step {s u : State} (h : step s = .next u) (n : Nat) : steps (n + 1) s = steps n u := by
  rw [steps, h]

/-- Settles O20, by induction on the number of steps: a hold leaves the controller waiting. -/
theorem busHangHoldsForAnyNumberOfSteps : Obligations.BusHangHoldsForAnyNumberOfSteps := by
  intro n
  induction n with
  | zero => exact fun s hw _ => ⟨s, rfl, hw, rfl, rfl, rfl, rfl, rfl, rfl, rfl, id, rfl⟩
  | succ n ih =>
    intro s hw hsilent
    obtain ⟨hnow, hlater⟩ := silent_of_take_succ hsilent
    obtain ⟨t, hsteps, hwait, hphase, hbstep, hcs, hx, hy, hind, htick, hcal, hhist⟩ :=
      ih (latchCal s s.holdBus).dropInput hw hlater
    exact ⟨t, (steps_succ_of_step (step_holdBus hw hnow) n).trans hsteps, hwait, hphase, hbstep, hcs, hx, hy, hind,
      htick, fun hc => hcal (by simp [hc]), hhist⟩

end Sys2Proof.Machine
end

section
/-! PROOFS. The bytes of a reading: the completion of the low-byte and the high-byte phases, and the sample assembler
(family `41_acquisition.md`). -/

namespace Sys2Proof.Machine

/-! ### The assembler -/

theorem assemble_toNat (lo hi : Byte) : (assemble lo hi).toNat = 256 * hi.toNat + lo.toNat := by
  rw [assemble, BitVec.toNat_append, ← Nat.shiftLeft_add_eq_or_of_lt lo.isLt, Nat.shiftLeft_eq, Nat.mul_comm]

/-- The sample's sign is bit 7 of its high byte: of the two bytes only the high one is read as signed. -/
theorem assemble_toInt (lo hi : Byte) : (assemble lo hi).toInt = 256 * hi.toInt + lo.toNat :=
  BitVec.toInt_append

/-- Settles O21: the sample is the concatenation of its two bytes, whose sign is the high byte's bit 7. -/
theorem assembledSampleIsHighByteOverLowByte : Obligations.AssembledSampleIsHighByteOverLowByte := by
  intro lo hi
  refine ⟨?_, BitVec.extractLsb'_append_eq_left, BitVec.extractLsb'_append_eq_right⟩
  have sign : hi.toInt = if hi.getLsbD 7 then (hi.toNat : Int) - 256 else hi.toNat := by
    rw [BitVec.toInt_eq_msb_cond, BitVec.msb_eq_getLsbD_last]; rfl
  rw [assemble_toInt, sign]
  split_ifs <;> omega

/-! ### T2 of the reads -/

/-- `s` when its read of register `a` is closed and recorded, before its phase takes the byte received. -/
def State.readClosed (s : State) (a : Addr) : State :=
  { s with csN := true, busGo := false, bstep := BStep.idle
           history := .transaction a (addressByte true a) s.cfg.readDummy s.now.busRx :: s.history }

/-- In T2 a phase that reads register `a` does its `k` with the byte received (46_scheduler.md R224). -/
theorem exec_readPhase_data_done {i : Instr} {s : State} {a : Addr} {k : State → Byte → State}
    (hb : s.bstep = BStep.data) (hd : s.now.busDone = true) (hx : exec i s = .next (readPhase s a k)) :
    exec i s = .next (k (s.readClosed a) s.now.busRx) := by
  rw [hx, readPhase, transact_data_done hb hd, onResult_some, State.completeBus, addressByte_extract]
  rfl

/-- Settles O17: in T2 each high-byte phase assembles its sample from the byte received and lo_buf. -/
theorem highBytePhasesAssembleTheSample : Obligations.HighBytePhasesAssembleTheSample := by
  intro s hb hd
  have sample := assemble_toNat s.loBuf s.now.busRx
  exact ⟨⟨_, exec_readPhase_data_done hb hd (exec_rdXH s), sample, rfl, rfl, rfl, rfl, rfl⟩,
    ⟨_, exec_readPhase_data_done hb hd (exec_rdYH s), sample, rfl, rfl, rfl, rfl, rfl⟩,
    ⟨_, exec_readPhase_data_done hb hd (exec_rdZH s), sample, rfl, rfl, rfl, rfl, rfl⟩⟩

/-- Settles O16: in T2 each low-byte phase takes the byte received, and its axis's high byte is next. -/
theorem lowBytePhasesKeepTheReceivedByte : Obligations.LowBytePhasesKeepTheReceivedByte := by
  intro s hb hd
  exact ⟨⟨_, exec_readPhase_data_done hb hd (exec_rdXL s), rfl, rfl, rfl, rfl, rfl, rfl⟩,
    ⟨_, exec_readPhase_data_done hb hd (exec_rdYL s), rfl, rfl, rfl, rfl, rfl, rfl⟩,
    ⟨_, exec_readPhase_data_done hb hd (exec_rdZL s), rfl, rfl, rfl, rfl, rfl, rfl⟩⟩

end Sys2Proof.Machine
end

section
/-! PROOFS. The magnitude comparator and the orientation it selects (family `42_orientation_selector.md`). -/

namespace Sys2Proof.Machine

/-- Settles O22: the comparator's two strict tests are the two sides of an absolute value over the integers, where the
negation of -32768 does not wrap. -/
theorem magnitudeTestIsExactOnEverySample : Obligations.MagnitudeTestIsExactOnEverySample := by
  intro s
  rw [magGT_iff, gt_iff_lt, gt_iff_lt, lt_abs, lt_neg]

/-- The chain's three tests, read over the integers. -/
theorem orientOf_eq_ite (sx sy sz : Half) : orientOf sx sy sz =
    if |sz.toInt| > 170 then .flat
    else if |sx.toInt| > 170 then .rolled
    else if |sy.toInt| > 170 then .pitched
    else .neutral := by
  simp only [orientOf, magnitudeTestIsExactOnEverySample _]

/-- Settles O23, along the chain: the tests that failed before an outcome are its bounds by 170, and each of the other
three outcomes contradicts one of the tests. -/
theorem orientationIsFirstMatchOfZThenXThenY : Obligations.OrientationIsFirstMatchOfZThenXThenY := by
  intro sx sy sz
  rw [orientOf_eq_ite]
  simp only [← not_lt, gt_iff_lt]
  split_ifs with hz hx hy
  · simp [hz]
  · simp [hz, hx]
  · simp [hz, hx, hy]
  · simp [hz, hx, hy]

end Sys2Proof.Machine
end

section
/-! PROOFS. The mapper's lanes in exact and in wrapping arithmetic, and the outputs that MAP writes (family
`43_tilt_mapper.md`). -/

namespace Sys2Proof.Machine

/-! ### The lanes -/

theorem wrap16_toNat (i : Int) : ((wrap16 i).toNat : Int) = i % 65536 := by
  rw [wrap16, BitVec.toNat_ofInt]
  exact Int.toNat_of_nonneg (Int.emod_nonneg i (by decide))

theorem wrap16_toInt (v : Half) : wrap16 v.toInt = v := BitVec.ofInt_toInt

/-- Wrapping to 16 bits carries the exact product, sum and difference of a lane to those of the bit patterns. -/
theorem wrap16_lane (raw off : Int) :
    wrap16 (raw * scale + centre - off) = wrap16 raw * 0x00C8 + 0x8000 - wrap16 off := by
  simp only [wrap16, scale, centre, Int.sub_eq_add_neg, BitVec.ofInt_add, BitVec.ofInt_mul, BitVec.ofInt_neg,
    BitVec.sub_eq_add_neg]
  rfl

/-- Settles O25: the lane is wrapped as a whole, and its operands are the wraps of their own signed values. -/
theorem mapperLaneIsWrappingSixteenBitArithmetic : Obligations.MapperLaneIsWrappingSixteenBitArithmetic := by
  intro raw off
  rw [mapLane, wrap16_lane, wrap16_toInt, wrap16_toInt]

/-- A lane reads of its operand only the residue mod 2^16: it may as well be fed the exact integer. -/
theorem mapLane_wrap16 (raw : Int) (off : Half) :
    mapLane (wrap16 raw) off = wrap16 (raw * scale + centre - off.toInt) := by
  rw [mapperLaneIsWrappingSixteenBitArithmetic, wrap16_lane, wrap16_toInt]

/-- 16-bit negation wraps the exact negation of the signed value, also at -32768. -/
theorem neg16_eq_wrap16 (v : Half) : neg16 v = wrap16 (-v.toInt) := by
  simp [neg16, wrap16, BitVec.ofInt_neg]

theorem mapLane_toNat (raw off : Half) :
    ((mapLane raw off).toNat : Int) = (raw.toInt * 200 + 32768 - off.toInt) % 65536 :=
  wrap16_toNat _

theorem mapLane_neg16_toNat (raw off : Half) :
    ((mapLane (neg16 raw) off).toNat : Int) = (-raw.toInt * 200 + 32768 - off.toInt) % 65536 := by
  rw [neg16_eq_wrap16, mapLane_wrap16]
  exact wrap16_toNat _

/-! ### The outputs -/

/-- The pair of lanes along the chain's three tests. -/
theorem mapOutputs_eq_ite (sx sy sz offX offY : Half) : mapOutputs sx sy sz offX offY =
    if |sz.toInt| > 170 then (mapLane sx offX, mapLane (neg16 sy) offY)
    else if |sx.toInt| > 170 then (mapLane sz offX, mapLane (neg16 sy) offY)
    else if |sy.toInt| > 170 then (mapLane sx offX, mapLane (neg16 sz) offY)
    else (wrap16 centre, wrap16 centre) := by
  rw [mapOutputs, orientOf_eq_ite]
  split_ifs <;> rfl

/-- Settles O24: with no reserved code MAP is its commit, whose outputs are the lanes of the selected pair. -/
theorem mapWritesTheSelectedPairScaledAndOffset : Obligations.MapWritesTheSelectedPairScaledAndOffset := by
  intro s hb
  refine ⟨s.commitOutputs, by rw [exec_map, unlessReserved_legal hb], rfl, ?_⟩
  rw [State.commitOutputs_outX, State.commitOutputs_outY, mapOutputs_eq_ite]
  split_ifs
  · exact ⟨mapLane_toNat _ _, mapLane_neg16_toNat _ _⟩
  · exact ⟨mapLane_toNat _ _, mapLane_neg16_toNat _ _⟩
  · exact ⟨mapLane_toNat _ _, mapLane_neg16_toNat _ _⟩
  · exact ⟨rfl, rfl⟩

end Sys2Proof.Machine
end

section
/-! PROOFS. The calibration sum in wrapping arithmetic, and what one and several calibrations do (family
`44_calibration.md`). -/

namespace Sys2Proof.Machine

/-! ### The sum -/

/-- A lane of the sum is the wrapping sum of the bit patterns, though `out` is read as unsigned and `off` as signed. -/
theorem calibLane_eq (out off : Half) : calibLane out off = out - 0x8000 + off := by
  simp only [calibLane, wrap16, centre, Int.sub_eq_add_neg, BitVec.ofInt_add, BitVec.ofInt_neg, BitVec.ofInt_natCast,
    BitVec.ofNat_toNat, BitVec.setWidth_eq, BitVec.ofInt_toInt, BitVec.sub_eq_add_neg]
  rfl

theorem calibLane_toNat (out off : Half) :
    ((calibLane out off).toNat : Int) = ((off.toNat : Int) + ((out.toNat : Int) - 32768)) % 65536 := by
  rw [calibLane, wrap16_toNat, centre, BitVec.toInt_eq_toNat_cond]
  split <;> omega

/-- A lane that reads the same operand after a calibration is at the centre: the new offset is the lane's distance from
it without any offset. -/
theorem mapLane_calibLane_mapLane (raw off : Half) : mapLane raw (calibLane (mapLane raw off) off) = wrap16 centre := by
  have sum : calibLane (mapLane raw off) off = raw * 0x00C8 := by
    rw [calibLane_eq, mapperLaneIsWrappingSixteenBitArithmetic]
    ring
  rw [sum, mapperLaneIsWrappingSixteenBitArithmetic, add_sub_cancel_left]
  rfl

/-- The same samples select the same pair again, and the neutral outcome is at the centre whatever the offsets. -/
theorem mapOutputs_calibLane_mapOutputs (sx sy sz offX offY : Half) :
    mapOutputs sx sy sz (calibLane (mapOutputs sx sy sz offX offY).1 offX)
      (calibLane (mapOutputs sx sy sz offX offY).2 offY) = (wrap16 centre, wrap16 centre) := by
  unfold mapOutputs
  cases selectPair (orientOf sx sy sz) sx sy sz with
  | none => rfl
  | some pair => exact Prod.ext (mapLane_calibLane_mapLane ..) (mapLane_calibLane_mapLane ..)

/-! ### Runs of the one-step phases -/

theorem exec_calib_legal {s : State} (hb : s.bstep ≠ BStep.reserved) : exec .calib s = .next s.calibrated := by
  rw [exec_calib, unlessReserved_legal hb]

theorem execAll_cons {i : Instr} {is : List Instr} {s t : State} (h : exec i s = .next t) :
    execAll (i :: is) s = execAll is t := by
  rw [execAll, h]

/-- Settles O31: with no reserved code CALIB is its write, whose lanes are the wrapping sums. -/
theorem calibrationAddsTheOutputsDistanceFromCentre : Obligations.CalibrationAddsTheOutputsDistanceFromCentre := by
  intro s hb
  rw [exec_calib_legal hb, State.calibrated, calibLane_eq, calibLane_eq]

/-- A cycle's two one-step phases, a calibration, and MAP again; no write on the way touches bstep. -/
theorem execAll_map_debounce_calib_map {s : State} (hb : s.bstep ≠ BStep.reserved) :
    execAll [.map, .debounce, .calib, .map] s = .next s.commitOutputs.debounced.calibrated.commitOutputs := by
  rw [execAll_cons (by rw [exec_map, unlessReserved_legal hb]),
    execAll_cons (by rw [exec_debounce, unlessReserved_legal (s := s.commitOutputs) hb]),
    execAll_cons (exec_calib_legal (s := s.commitOutputs.debounced) hb),
    execAll_cons (by rw [exec_map, unlessReserved_legal (s := s.commitOutputs.debounced.calibrated) hb]), execAll]

/-- Settles O33: DEBOUNCE keeps what CALIB reads, and both keep the samples, so the second MAP reads the calibrated
lanes of the first one's outputs. -/
theorem calibrationRezeroesTheSameReading : Obligations.CalibrationRezeroesTheSameReading := by
  intro s hb
  have outputs := mapOutputs_calibLane_mapOutputs s.sx s.sy s.sz s.offX s.offY
  exact ⟨_, execAll_map_debounce_calib_map hb, congrArg (·.1.toNat) outputs, congrArg (·.2.toNat) outputs⟩

/-- One calibration is one more distance from the centre:
what `k` more add to its sum, `k + 1` add to the old offset. -/
theorem calibLane_add_mul (k : Nat) (out off : Half) :
    (((calibLane out off).toNat : Int) + k * ((out.toNat : Int) - 32768)) % 65536 =
      ((off.toNat : Int) + (k + 1 : Nat) * ((out.toNat : Int) - 32768)) % 65536 := by
  rw [calibLane_toNat, Int.emod_add_emod]
  push_cast
  ring_nf

/-- Settles O34, by induction on the number of calibrations, the first of which leaves the outputs, and with them the
distances that the others add. -/
theorem repeatedCalibrationsAccumulate : Obligations.RepeatedCalibrationsAccumulate := by
  intro k
  induction k with
  | zero =>
    intro s _
    exact ⟨s, rfl, by omega, by omega, rfl, rfl⟩
  | succ k ih =>
    intro s hb
    obtain ⟨t, hrun, hx, hy, houtX, houtY⟩ := ih s.calibrated hb
    refine ⟨t, (execAll_cons (exec_calib_legal hb)).trans hrun, ?_, ?_, houtX, houtY⟩
    · exact hx.trans (calibLane_add_mul k s.outX s.offX)
    · exact hy.trans (calibLane_add_mul k s.outY s.offY)

end Sys2Proof.Machine
end

section
/-! PROOFS. The band and the counter of the debouncer, the indicator it drives, and the two invariants of the machine
(family `45_level_debouncer.md`). -/

namespace Sys2Proof.Machine

/-! ### The invariants of a step -/

/-- What reset establishes, and what every move, the latching of requests and the spent script entry keep, every step
keeps. -/
theorem step_preserves {P : State → Prop} (reset : ∀ s : State, P s.applyReset)
    (move : ∀ s u, Move s u → P s → P u) (latch : ∀ s u, P u → P (latchCal s (latchTick s u)))
    (drop : ∀ s : State, P s → P s.dropInput) {s t : State} (hs : P s) (hstep : step s = .next t) : P t := by
  obtain ⟨-, rfl⟩ | ⟨-, -, rfl⟩ | ⟨-, -, u, hmove, rfl⟩ := step_cases hstep
  · exact drop _ (reset s)
  · exact drop _ hs
  · exact drop _ (latch s u (move s u hmove hs))

/-! ### The band and the line -/

/-- Settles O26: the two strict bounds are the two ends of the band. -/
theorem bandIsStrictOnBothSides : Obligations.BandIsStrictOnBothSides := by
  refine ⟨fun o => ?_, fun s => Bool.and_eq_true_iff⟩
  rw [inBand_iff]
  omega

/-- Settles O30: the line carries ind, or under the level LOW its complement. -/
theorem ledLineFollowsIndicatorAndPolarity : Obligations.LedLineFollowsIndicatorAndPolarity := by
  intro s
  unfold State.led
  cases s.cfg.ledActiveLevel <;> simp

/-! ### The counter and the indicator -/

/-- While level holds, the decremented counter is zero exactly when it was at 1 (45_level_debouncer.md R203). -/
theorem debounceNext_level (hcnt : Byte) (ind : Bool) :
    debounceNext true hcnt ind = if hcnt = 1 then (100, true) else (hcnt - 1, ind) := by
  simp only [debounceNext, if_true, sub_eq_zero]
  rfl

/-- A broken condition reloads the counter and turns the indicator OFF at once (45_level_debouncer.md R207). -/
theorem debounceNext_broken (hcnt : Byte) (ind : Bool) : debounceNext false hcnt ind = (100, false) := rfl

/-- 45_level_debouncer.md R204: the counter stays in 1..100. -/
theorem debounceNext_hcnt_bounds (level ind : Bool) {hcnt : Byte} (h : 1 ≤ hcnt.toNat ∧ hcnt.toNat ≤ 100) :
    1 ≤ (debounceNext level hcnt ind).1.toNat ∧ (debounceNext level hcnt ind).1.toNat ≤ 100 := by
  cases level with
  | false => rw [debounceNext_broken]; decide
  | true =>
    rw [debounceNext_level]
    split
    case isTrue => decide
    case isFalse hne => bv_omega

/-- DEBOUNCE leaves the indicator ON only under the level condition. -/
theorem level_of_debounceNext_ind {level ind : Bool} {hcnt : Byte} (h : (debounceNext level hcnt ind).2 = true) :
    level = true := by
  cases level
  · exact h
  · rfl

theorem State.level_iff (s : State) : s.level = true ↔
    28672 < s.outX.toNat ∧ s.outX.toNat < 36864 ∧ 28672 < s.outY.toNat ∧ s.outY.toNat < 36864 := by
  rw [State.level, levelOf, Bool.and_eq_true, inBand_iff, inBand_iff, and_assoc]

theorem exec_debounce_legal {s : State} (hb : s.bstep ≠ BStep.reserved) : exec .debounce s = .next s.debounced := by
  rw [exec_debounce, unlessReserved_legal hb]

/-- With both outputs in the band, DEBOUNCE decrements the counter or fires. -/
theorem State.debounced_of_level {s : State} (h : s.level = true) :
    if s.hcnt = 1 then s.debounced.ind = true ∧ s.debounced.hcnt = 100
    else s.debounced.ind = s.ind ∧ s.debounced.hcnt = s.hcnt - 1 := by
  rw [debounced_ind, debounced_hcnt, h, debounceNext_level]
  split <;> exact ⟨rfl, rfl⟩

theorem State.debounced_of_not_level {s : State} (h : ¬ s.level = true) :
    s.debounced.ind = false ∧ s.debounced.hcnt = 100 := by
  rw [debounced_ind, debounced_hcnt, Bool.eq_false_of_not_eq_true h]
  exact ⟨rfl, rfl⟩

/-- Settles O27: with no reserved code DEBOUNCE is its one write, level or not. -/
theorem debounceCountsDownReloadsAndDrivesTheIndicator :
    Obligations.DebounceCountsDownReloadsAndDrivesTheIndicator := by
  intro s hb
  refine ⟨s.debounced, exec_debounce_legal hb, rfl, ?_⟩
  split
  case isTrue hlevel => exact State.debounced_of_level (s.level_iff.2 hlevel)
  case isFalse hbroken => exact State.debounced_of_not_level (mt s.level_iff.1 hbroken)

/-- The neutral outcome puts both outputs at the centre, whatever the offsets (43_tilt_mapper.md R165). -/
theorem mapOutputs_of_neutral {sx sy sz : Half} (h : orientOf sx sy sz = .neutral) (offX offY : Half) :
    mapOutputs sx sy sz offX offY = (wrap16 centre, wrap16 centre) := by
  rw [mapOutputs, h]
  rfl

/-- Settles O29: the neutral outputs are level, and MAP keeps the counter and the indicator. -/
theorem neutralCycleCountsAsLevel : Obligations.NeutralCycleCountsAsLevel := by
  intro s hb hneutral
  have hlevel : s.commitOutputs.level = true := by
    rw [State.level, State.commitOutputs_outX, State.commitOutputs_outY, mapOutputs_of_neutral hneutral]
    decide
  refine ⟨s.commitOutputs.debounced, ?_, State.debounced_of_level hlevel⟩
  rw [execAll_cons (by rw [exec_map, unlessReserved_legal hb]),
    execAll_cons (exec_debounce_legal (s := s.commitOutputs) hb), execAll]

/-! ### Runs of level cycles -/

/-- The counter and the indicator after `k` of the 100 level cycles that confirm the indicator, which was `on` when the
counter was full (45_level_debouncer.md R205, R206). -/
def Confirming (on : Bool) (k : Nat) (hcnt : Byte) (ind : Bool) : Prop :=
  if k = 100 then ind = true ∧ hcnt = 100 else ind = on ∧ hcnt.toNat = 100 - k

theorem Confirming.debounceNext {on ind : Bool} {k : Nat} {hcnt : Byte} (h : Confirming on k hcnt ind)
    (hk : k < 100) :
    Confirming on (k + 1) (debounceNext true hcnt ind).1 (debounceNext true hcnt ind).2 := by
  obtain ⟨rfl, hcnt_eq⟩ : ind = on ∧ hcnt.toNat = 100 - k := by rwa [Confirming, if_neg hk.ne] at h
  have last : hcnt = 1 ↔ k + 1 = 100 := by
    rw [BitVec.toNat_eq, hcnt_eq]
    change 100 - k = 1 ↔ _
    omega
  rw [debounceNext_level, Confirming]
  simp only [last]
  split
  case isTrue => exact ⟨rfl, rfl⟩
  case isFalse => exact ⟨rfl, by bv_omega⟩

/-- DEBOUNCE executed `n` times over level outputs, from any point of the countdown. -/
theorem execAll_replicate_debounce {on : Bool} (n : Nat) {k : Nat} {s : State} (hb : s.bstep ≠ BStep.reserved)
    (hlevel : s.level = true) (hs : Confirming on k s.hcnt s.ind) (hk : k + n ≤ 100) :
    ∃ t, execAll (List.replicate n .debounce) s = .next t ∧ Confirming on (k + n) t.hcnt t.ind := by
  induction n generalizing k s with
  | zero => exact ⟨s, rfl, hs⟩
  | succ n ih =>
    have counted := hs.debounceNext (by omega)
    rw [← hlevel] at counted
    obtain ⟨t, hrun, ht⟩ := ih (s := s.debounced) hb hlevel counted (by omega)
    rw [Nat.add_right_comm] at ht
    exact ⟨t, (execAll_cons (exec_debounce_legal hb)).trans hrun, ht⟩

/-- Settles O28: from a full counter with the indicator ON, the countdown and its end leave the indicator ON. -/
theorem levelIndicatorStaysOnWhileLevelHolds : Obligations.LevelIndicatorStaysOnWhileLevelHolds := by
  intro s k hb hlevel hcnt hind hk
  have full : Confirming true 0 s.hcnt s.ind := by rw [hcnt, hind]; exact ⟨rfl, rfl⟩
  obtain ⟨t, hrun, ht⟩ := execAll_replicate_debounce k hb hlevel full (by omega)
  refine ⟨t, hrun, ?_⟩
  rw [Nat.zero_add, Confirming] at ht
  split at ht
  case isTrue h100 => rw [if_pos h100, ht.2]; exact ⟨ht.1, rfl⟩
  case isFalse hlt => rwa [if_neg hlt]

/-- Whole sampling cycles with level readings, from rest at any point of the countdown. -/
theorem steps_level_cycles {on : Bool} {junk : Byte} {rest : List Inputs} (rs : List Reading) {k : Nat} {s : State}
    (hrest : s.AtRest) (hlevel : ∀ r ∈ rs, levelOf (r.outputs s.offX s.offY).1 (r.outputs s.offX s.offY).2 = true)
    (hs : Confirming on k s.hcnt s.ind) (hk : k + rs.length ≤ 100)
    (hsc : s.script = (rs.map (cycleScript s.calPrev junk)).flatten ++ rest) :
    ∃ t, steps (22 * rs.length) s = .next t ∧ t.AtRest ∧ Confirming on (k + rs.length) t.hcnt t.ind := by
  induction rs generalizing k s with
  | nil => exact ⟨s, rfl, hrest, hs⟩
  | cons r rs ih =>
    rw [List.forall_mem_cons] at hlevel
    rw [List.length_cons] at hk ⊢
    rw [List.map_cons, List.flatten_cons, List.append_assoc] at hsc
    have cycle := steps_cycled hrest hsc
    obtain ⟨⟨hstuck, -, -, -, hcal⟩, -⟩ := hrest
    have counted := hs.debounceNext (by omega)
    rw [← hlevel.1] at counted
    obtain ⟨t, hrun, hend, ht⟩ := ih (s := s.cycled r ((rs.map (cycleScript s.calPrev junk)).flatten ++ rest))
      ⟨⟨hstuck, rfl, rfl, rfl, hcal⟩, rfl, rfl⟩ hlevel.2 counted (by omega) rfl
    rw [Nat.add_right_comm] at ht
    exact ⟨t, by rw [Nat.mul_succ, Nat.add_comm, steps_add 22 _ s _ cycle, hrun], hend, ht⟩

/-- Settles O59: from a full counter with the indicator OFF, the hundredth cycle ends the countdown. -/
theorem indicatorTurnsOnAtTheHundredthLevelCycle : Obligations.IndicatorTurnsOnAtTheHundredthLevelCycle := by
  intro rs s junk rest hrest hcnt hind hlen hlevel hsc
  have full : Confirming false 0 s.hcnt s.ind := by rw [hcnt, hind]; exact ⟨rfl, rfl⟩
  obtain ⟨t, hrun, hend, ht⟩ := steps_level_cycles rs hrest hlevel full (by omega) hsc
  rw [Nat.zero_add] at ht
  exact ⟨t, hrun, hend, ht⟩

/-! ### The legal states -/

/-- No transaction is in progress, the sensor is deselected and no exchange is being issued. -/
def State.BusIdle (s : State) : Prop := s.bstep = BStep.idle ∧ s.csN = true ∧ s.busGo = false

/-- Outside the bus phases a legal state has no transaction (40_serial_protocol.md R110). -/
theorem State.Legal.busIdle {s : State} (h : s.Legal) (hp : busPhase s.phase = false) : s.BusIdle := by
  obtain ⟨-, -, -, hcs, hgo, hbus⟩ := h
  have hb : s.bstep = BStep.idle := by
    by_contra hne
    rw [hbus hne] at hp
    cases hp
  refine ⟨hb, ?_, ?_⟩
  · simpa [hb] using hcs
  · simpa [hb] using hgo

theorem State.BusIdle.legal {s : State} (h : s.BusIdle) (hcnt : 1 ≤ s.hcnt.toNat ∧ s.hcnt.toNat ≤ 100)
    (hp : s.phase.toNat ≤ 11) : s.Legal := by
  obtain ⟨hb, hcs, hgo⟩ := h
  simp [State.Legal, *]

/-- A transaction in progress, in a phase that uses the bus. -/
theorem legal_of_transaction {s : State} (hcnt : 1 ≤ s.hcnt.toNat ∧ s.hcnt.toNat ≤ 100)
    (hp : busPhase s.phase = true) (hb : s.bstep = BStep.addr ∨ s.bstep = BStep.data) (hcs : s.csN = false) :
    s.Legal := by
  have hphase : s.phase.toNat ≤ 11 := by
    simp only [busPhase, Bool.and_eq_true, decide_eq_true_eq] at hp
    omega
  obtain hb | hb := hb <;> simp [State.Legal, *]

theorem Move.legal {s u : State} (h : Move s u) (hs : s.Legal) : u.Legal := by
  have outside (p : PhaseCode) (hp : s.phase = p) (hout : busPhase p = false) : s.BusIdle :=
    hs.busIdle (hp ▸ hout)
  have ⟨hcnt, _, _, hcs, _⟩ := hs
  cases h with
  | reserved | wait => exact hs
  | takeTick _ hp | takeCal _ hp => exact State.BusIdle.legal (outside _ hp rfl) hcnt (by simp)
  | issueAddress _ hp => exact legal_of_transaction hcnt hp (.inl rfl) rfl
  | issueData _ hp hb => exact legal_of_transaction hcnt hp (.inr rfl) (hcs.2 (.inl hb))
  | holdBus hp hb => exact legal_of_transaction hcnt hp hb (hcs.2 hb)
  | write _ _ p _ _ hp =>
    have hnext : p.toNat ≤ 11 := by obtain ⟨-, rfl⟩ | ⟨-, rfl⟩ := hp <;> decide
    exact State.BusIdle.legal ⟨rfl, rfl, rfl⟩ hcnt hnext
  | low _ _ p _ _ hp =>
    have hnext : p.toNat ≤ 11 := by obtain ⟨-, rfl⟩ | ⟨-, rfl⟩ | ⟨-, rfl⟩ := hp <;> decide
    exact State.BusIdle.legal ⟨rfl, rfl, rfl⟩ hcnt hnext
  | highX | highY | highZ => exact State.BusIdle.legal ⟨rfl, rfl, rfl⟩ hcnt (by simp)
  | debounce hp => exact State.BusIdle.legal (outside _ hp rfl) (debounceNext_hcnt_bounds _ _ hcnt) (by simp)
  | map hp | calib hp => exact State.BusIdle.legal (outside _ hp rfl) hcnt (by simp)

/-- Settles O47: reset is legal, every move keeps the state legal, and the latching writes none of the registers that
`State.Legal` reads. -/
theorem everyStepKeepsTheStateLegal : Obligations.EveryStepKeepsTheStateLegal :=
  fun _ _ => step_preserves (fun _ => State.BusIdle.legal ⟨rfl, rfl, rfl⟩ (by simp [hystReload]) (by simp))
    (fun _ _ => Move.legal) (fun s u hu => by simpa [State.Legal] using hu) (fun _ h => h)

/-! ### The truth of the indicator -/

theorem Move.indicatorTruthful {s u : State} (h : Move s u) (hs : s.IndicatorTruthful) : u.IndicatorTruthful := by
  have bus (hp : busPhase s.phase = true) : s.ind = true → s.level = true :=
    hs fun h => by rw [h] at hp; cases hp
  cases h with
  | map => exact fun hp => absurd rfl hp
  | debounce => exact fun _ => level_of_debounceNext_ind
  | reserved | wait => exact hs
  | takeTick _ hp | takeCal _ hp | calib hp => exact fun _ => hs (hp ▸ by decide)
  | issueAddress _ hp | issueData _ hp | holdBus hp => exact fun _ => bus hp
  | write _ _ _ _ _ hp => exact fun _ => bus (by obtain ⟨h, -⟩ | ⟨h, -⟩ := hp <;> rw [h] <;> rfl)
  | low _ _ _ _ _ hp => exact fun _ => bus (by obtain ⟨h, -⟩ | ⟨h, -⟩ | ⟨h, -⟩ := hp <;> rw [h] <;> rfl)
  | highX _ _ _ _ hp | highY _ _ _ _ hp | highZ _ _ _ _ hp => exact fun _ => bus (hp ▸ rfl)

/-- Settles O49: reset turns the indicator OFF, every move keeps it truthful, and the latching writes neither it nor the
outputs. -/
theorem indicatorIsOnOnlyWhileOutputsAreLevel : Obligations.IndicatorIsOnOnlyWhileOutputsAreLevel :=
  fun _ _ => step_preserves (fun _ _ hind => by cases hind) (fun _ _ => Move.indicatorTruthful)
    (fun s u hu => by simpa [State.IndicatorTruthful, State.level] using hu) (fun _ h => h)

end Sys2Proof.Machine
end

section
/-! PROOFS. The table of phase transitions, the startup writes, and the whole sampling cycle (family
`46_scheduler.md`). -/

namespace Sys2Proof.Machine

/-! ### The table of phase transitions -/

/-- A row of 46_scheduler.md R223 leads from `s` to phase `p`, and the row's condition holds. -/
def TransitionRow (s : State) (p : PhaseCode) : Prop :=
  (s.phase = Phase.idle ∧ s.tickPend = true ∧ p = Phase.rdXL) ∨
    (s.phase = Phase.idle ∧ s.calPend = true ∧ p = Phase.calib) ∨
    (s.phase = Phase.map ∧ p = Phase.debounce) ∨
    (s.phase = Phase.debounce ∧ p = Phase.idle) ∨
    (s.phase = Phase.calib ∧ p = Phase.idle) ∨
    (s.bstep = BStep.data ∧ s.now.busDone = true ∧
      (s.phase, p) ∈ [(Phase.initW1, Phase.initW2), (Phase.initW2, Phase.idle), (Phase.rdXL, Phase.rdXH),
        (Phase.rdXH, Phase.rdYL), (Phase.rdYL, Phase.rdYH), (Phase.rdYH, Phase.rdZL), (Phase.rdZL, Phase.rdZH),
        (Phase.rdZH, Phase.map)])

theorem Move.transitionRow {s u : State} (h : Move s u) : u.phase = s.phase ∨ TransitionRow s u.phase := by
  cases h with
  | reserved | wait | issueAddress | issueData | holdBus => exact .inl rfl
  | takeTick _ hp ht => simp [TransitionRow, hp, ht]
  | takeCal _ hp hc => simp [TransitionRow, hp, hc]
  | write _ _ _ hb hd hp => obtain ⟨hp, rfl⟩ | ⟨hp, rfl⟩ := hp <;> simp [TransitionRow, hb, hd, hp]
  | low _ _ _ hb hd hp =>
    obtain ⟨hp, rfl⟩ | ⟨hp, rfl⟩ | ⟨hp, rfl⟩ := hp <;> simp [TransitionRow, hb, hd, hp]
  | highX _ _ hb hd hp | highY _ _ hb hd hp | highZ _ _ hb hd hp => simp [TransitionRow, hb, hd, hp]
  | map hp | debounce hp | calib hp => simp [TransitionRow, hp]

/-- Settles O50: reset goes to INIT_W1, a held controller stays in its phase, and a move that changes the phase is a row
of the table; the latching writes no phase. -/
theorem phaseChangesOnlyByTheTransitionTable : Obligations.PhaseChangesOnlyByTheTransitionTable := by
  intro s t hstep hne
  obtain ⟨hr, rfl⟩ | ⟨-, -, rfl⟩ | ⟨hr, hs, u, hmove, rfl⟩ := step_cases hstep
  · exact .inl ⟨hr, rfl⟩
  · exact absurd rfl hne
  · have hphase : (latchCal s (latchTick s u)).dropInput.phase = u.phase := by simp
    rw [hphase] at hne ⊢
    exact .inr ⟨hr, hs, hmove.transitionRow.resolve_left hne⟩

/-! ### The startup writes -/

/-- `s` when its write of `v` to register `a` is closed and recorded with the byte `b`, and phase `p` is next. -/
def State.writeClosed (s : State) (a : Addr) (v b : Byte) (p : PhaseCode) : State :=
  { s with csN := true, busGo := false, bstep := BStep.idle, phase := p
           history := .transaction a (addressByte false a) v b :: s.history }

/-- In T2 a phase that writes a register closes its frame and goes to its next phase (46_scheduler.md R224). -/
theorem exec_writePhase_data_done {i : Instr} {s : State} {a : Addr} {v : Byte} {p : PhaseCode}
    (hb : s.bstep = BStep.data) (hd : s.now.busDone = true) (hx : exec i s = .next (writePhase s a v p)) :
    exec i s = .next (s.writeClosed a v s.now.busRx p) := by
  rw [hx, writePhase, transact_data_done hb hd, onResult_some, State.completeBus, addressByte_extract]
  rfl

/-- Settles O15: both startup phases are writes of their parameters' frames. -/
theorem startupWritesAdvanceWhenTheirFrameCompletes : Obligations.StartupWritesAdvanceWhenTheirFrameCompletes := by
  intro s hb hd
  rw [← addressByte_write, ← addressByte_write]
  exact ⟨exec_writePhase_data_done hb hd (exec_initW1 s), exec_writePhase_data_done hb hd (exec_initW2 s)⟩

/-- A run whose first three steps are those of a phase that writes the register that parameter `a` names, with a bus
that completes at once (46_scheduler.md R227). -/
theorem steps_add_writePhase {s : State} {q p : PhaseCode} (a : Config.Params → Addr) (v : Config.Params → Byte)
    {junk b : Byte} {rest : List Inputs} {n : Nat} (hs : s.stuck = none) (hb : s.bstep = BStep.idle)
    (hp : s.phase = q) (hq : q ≠ Phase.idle) (hsc : s.script = transactionScript s.calPrev junk b ++ rest)
    (hx : ∀ t : State, exec (decodePhase q) t = .next (writePhase t (a t.cfg) (v t.cfg) p)) :
    steps (3 + n) s = steps n { s.writeClosed (a s.cfg) (v s.cfg) b p with busTx := v s.cfg, script := rest } := by
  have frame (t : State) (ht : t.phase = s.phase) (hcfg : t.cfg = s.cfg) :
      exec (decodePhase t.phase) t = .next (writePhase t (a s.cfg) (v s.cfg) p) := by rw [ht, hp, hx, hcfg]
  rw [steps_add 3 n s _ (steps_transaction _ _ junk b _ rest hs hb (hp ▸ hq) hsc frame fun _ _ => ⟨rfl, rfl⟩),
    State.transacted, addressByte_extract]
  rfl

/-- Settles O56: INIT_W1 and INIT_W2 are two such writes, one after the other. -/
theorem startupSendsTheTwoConfigurationFrames : Obligations.StartupSendsTheTwoConfigurationFrames := by
  intro s junk b rest hs hp hb hsc
  rw [List.append_assoc] at hsc
  have init := Eq.trans
    (steps_add_writePhase (n := 3) (·.cfg1Addr) (·.cfg1Val) hs hb hp (by decide) hsc exec_initW1)
    (steps_add_writePhase (n := 0) (q := Phase.initW2) (·.cfg2Addr) (·.cfg2Val) hs rfl rfl (by decide) rfl exec_initW2)
  exact ⟨_, init, rfl, rfl, rfl, rfl, hs, rfl, rfl, rfl⟩

/-! ### The sampling cycle -/

/-- A cycle from rest ends at rest. -/
theorem State.AtRest.cycled {s : State} (h : s.AtRest) (r : Reading) (rest : List Inputs) :
    (s.cycled r rest).AtRest := by
  obtain ⟨⟨hs, -, -, -, hc⟩, -, -⟩ := h
  exact ⟨⟨hs, rfl, rfl, rfl, hc⟩, rfl, rfl⟩

/-- What DEBOUNCE leaves in the counter and the indicator, by the outputs it judges (45_level_debouncer.md R203). -/
theorem State.debounced_counts (s : State) :
    if levelOf s.outX s.outY then
      (if s.hcnt = 1 then s.debounced.ind = true ∧ s.debounced.hcnt = 100
      else s.debounced.ind = s.ind ∧ s.debounced.hcnt = s.hcnt - 1)
    else s.debounced.ind = false ∧ s.debounced.hcnt = 100 := by
  split
  case isTrue hlevel => exact State.debounced_of_level hlevel
  case isFalse hbroken => exact State.debounced_of_not_level hbroken

/-- Settles O57: the 22 steps of the cycle end in `State.cycled`, which is DEBOUNCE's write on the outputs of MAP. -/
theorem samplingCycleRunsFromRestToRest : Obligations.SamplingCycleRunsFromRestToRest := by
  intro s junk r rest hrest hsc
  exact ⟨_, steps_cycled hrest hsc, hrest.cycled r rest, rfl, rfl, rfl, rfl, rfl, rfl, rfl, rfl, rfl, rfl, rfl,
    State.debounced_counts ((s.started rest).sampled r rest).commitOutputs⟩

end Sys2Proof.Machine
end

section
/-! PROOFS. Requests and their acceptance, the arrivals that a step latches, the fault set, and the stop and restart of
a stuck controller (family `60_exceptions.md`). -/

namespace Sys2Proof.Machine

/-! ### A step of a free controller -/

/-- A free controller without reset makes one move, and the requests that arrive are latched on top of it. -/
theorem exists_move_of_free {s : State} (hs : s.stuck = none) (hr : s.now.rst = false) :
    ∃ u, Move s u ∧ step s = .next (latchCal s (latchTick s u)).dropInput := by
  obtain ⟨t, ht⟩ := step_answers_next hs
  obtain ⟨hrst, -⟩ | ⟨-, ⟨f, hf⟩, -⟩ | ⟨-, -, u, hmove, rfl⟩ := step_cases ht
  · rw [hr] at hrst; cases hrst
  · rw [hs] at hf; cases hf
  · exact ⟨u, hmove, ht⟩

/-! ### The fault set and the configuration -/

theorem Move.mem_faults {s u : State} {f : Fault} (h : Move s u) (hf : f ∈ s.faults) : f ∈ u.faults := by
  cases h with
  | reserved _ _ _ hsub => exact hsub f hf
  | _ => exact hf

theorem Move.cfg_eq {s u : State} (h : Move s u) : u.cfg = s.cfg := by
  cases h <;> rfl

theorem mem_latchTick_faults_of_mem {s t : State} {f : Fault} (h : f ∈ t.faults) : f ∈ (latchTick s t).faults := by
  unfold latchTick
  split_ifs
  · exact (mem_insertFault ..).2 (.inr h)
  · exact h
  · exact h

/-- Settles O52: reset and the hold keep both, a move and the latching add faults only, and none of them writes the
configuration. -/
theorem faultSetOnlyGrowsAndConfigurationIsFixed : Obligations.FaultSetOnlyGrowsAndConfigurationIsFixed := by
  intro s t hstep
  obtain ⟨-, rfl⟩ | ⟨-, -, rfl⟩ | ⟨-, -, u, hmove, rfl⟩ := step_cases hstep
  · exact ⟨fun _ hf => hf, rfl⟩
  · exact ⟨fun _ hf => hf, rfl⟩
  · exact ⟨fun _ hf => mem_latchTick_faults_of_mem (hmove.mem_faults hf), by simp [hmove.cfg_eq]⟩

/-! ### A TICK that arrives -/

theorem inCycle_iff : ∀ p : PhaseCode, inCycle p = true ↔ 3 ≤ p.toNat ∧ p.toNat ≤ 10 := by decide

theorem State.tickOverruns_iff (s : State) :
    s.tickOverruns = true ↔ (3 ≤ s.phase.toNat ∧ s.phase.toNat ≤ 10) ∨ s.tickPend = true := by
  rw [State.tickOverruns, Bool.or_eq_true, inCycle_iff]

/-- The controller's own transition records no overrun. -/
theorem Move.tickOverrun_mem_faults {s u : State} (h : Move s u) {p : PhaseCode} {b : Bool}
    (hf : .tickOverrun p b ∈ u.faults) : .tickOverrun p b ∈ s.faults := by
  cases h with
  | reserved _ _ _ _ hnew => exact (hnew _ hf).resolve_right nofun
  | _ => exact hf

/-- Settles O39: whatever the controller's own move, `latchTick` raises the overrun or sets the flag. -/
theorem tickIsLatchedOrOverruns : Obligations.TickIsLatchedOrOverruns := by
  intro s hs hr ht
  obtain ⟨u, hmove, hstep⟩ := exists_move_of_free hs hr
  refine ⟨_, hstep, ?_⟩
  simp only [← s.tickOverruns_iff]
  split_ifs with ho
  · rw [latchTick_overrun ht ho]
    exact ⟨(mem_insertFault ..).2 (.inl rfl), rfl⟩
  · rw [latchTick_pend ht (by simpa using ho)]
    exact ⟨rfl, fun _ _ => hmove.tickOverrun_mem_faults⟩

/-! ### An edge on the calibration input -/

theorem calEdge_iff : ∀ (kind : Config.Edge) (prev now : Bool), calEdge kind prev now = true ↔
    (kind = .rising ∧ prev = false ∧ now = true) ∨ (kind = .falling ∧ prev = true ∧ now = false) := by
  rintro (_ | _) <;> decide

/-- The controller's own transition writes cal_pend only where it takes a pending calibration, in IDLE. -/
theorem Move.calPend_cases {s u : State} (h : Move s u) :
    u.calPend = s.calPend ∨ (s.phase = Phase.idle ∧ u.calPend = false) := by
  cases h with
  | takeCal _ hp => exact .inr ⟨hp, rfl⟩
  | _ => exact .inl rfl

/-- Settles O40: `latchCal` samples cal_in and adds its edge to what the controller's own move leaves pending. -/
theorem calibrationEdgeIsLatchedInEveryPhase : Obligations.CalibrationEdgeIsLatchedInEveryPhase := by
  intro s hs hr
  obtain ⟨u, hmove, hstep⟩ := exists_move_of_free hs hr
  refine ⟨_, hstep, rfl, ?_⟩
  simp only [← calEdge_iff, State.dropInput_calPend, latchCal_calPend, latchTick_calPend]
  split_ifs with hedge
  · rw [hedge, Bool.or_true]
  · rw [Bool.eq_false_iff.2 hedge, Bool.or_false]
    obtain hkept | ⟨hidle, htaken⟩ := hmove.calPend_cases
    · exact ⟨fun h => hkept ▸ h, fun _ => hkept⟩
    · exact ⟨fun h => absurd (htaken.symm.trans h) Bool.false_ne_true, fun hbusy => absurd hidle hbusy⟩

/-! ### The event instructions -/

/-- Settles O35: in IDLE, TICK and CAL are their acceptances. -/
theorem acceptanceStartsTheRequestedOperation : Obligations.AcceptanceStartsTheRequestedOperation := by
  intro s hb hp
  rw [exec_tick, exec_cal, inIdle_idle hb hp, inIdle_idle hb hp]
  exact ⟨rfl, rfl⟩

/-- Settles O36: in each of the four cases phase IDLE makes the acceptance of the event with these flags. -/
theorem idlePhaseTakesWhatIsPending : Obligations.IdlePhaseTakesWhatIsPending := by
  intro s hb hp
  rw [exec_idle_pending hb hp, exec_tick, exec_cal, exec_tickCal]
  simp only [inIdle_idle hb hp]
  refine ⟨?_, ?_, ?_, ?_⟩ <;> intro hc ht <;> rw [hc, ht]

/-- Everything TICK_CAL can do in IDLE (60_exceptions.md R246). -/
theorem State.acceptBoth_cases (s : State) :
    (s.calGoesFirst = true ∧ s.acceptBoth = s.acceptCal.drawn) ∨
      (s.calGoesFirst = false ∧ s.acceptBoth = s.acceptTick.drawn) := by
  unfold State.acceptBoth
  cases s.calGoesFirst
  exacts [.inr ⟨rfl, rfl⟩, .inl ⟨rfl, rfl⟩]

theorem State.acceptBoth_phase (s : State) :
    s.acceptBoth.phase = if s.calGoesFirst then Phase.calib else Phase.rdXL := by
  obtain ⟨hg, h⟩ | ⟨hg, h⟩ := s.acceptBoth_cases <;> rw [hg, h] <;> rfl

/-- Settles O37: the order of `State.calGoesFirst` decides which request is taken, and a script entry can name either
under ANY. -/
theorem simultaneousRequestsAreTakenInArbitrationOrder :
    Obligations.SimultaneousRequestsAreTakenInArbitrationOrder := by
  intro s hb hp ht hc
  refine ⟨s.acceptBoth, congrArg _ (inIdle_idle hb hp _), ?_, fun ho => ?_, fun ho => ?_, fun ho p hq => ?_⟩
  · obtain ⟨-, h⟩ | ⟨-, h⟩ := s.acceptBoth_cases <;> rw [h]
    exacts [.inr ⟨rfl, rfl, ht⟩, .inl ⟨rfl, rfl, hc⟩]
  · rw [s.acceptBoth_phase, State.calGoesFirst, ho]; rfl
  · rw [s.acceptBoth_phase, State.calGoesFirst, ho]; rfl
  · refine ⟨{ s.now with calFirst := decide (p = Phase.calib) }, _,
      congrArg Host.Outcome.next (inIdle_idle (by exact hb) (by exact hp) _), ?_⟩
    rw [State.acceptBoth_phase, State.calGoesFirst, ho]
    obtain rfl | rfl := hq <;> rfl

/-- `t` is `s` but for the pending flags, the phase, the history and the draw counter. -/
def EventFrame (s t : State) : Prop :=
  t = { s with tickPend := t.tickPend, calPend := t.calPend, phase := t.phase, history := t.history, draws := t.draws }

theorem acceptBoth_eventFrame (s : State) : EventFrame s s.acceptBoth := by
  obtain ⟨-, h⟩ | ⟨-, h⟩ := s.acceptBoth_cases <;> rw [h] <;> rfl

/-- Each event instruction makes, in IDLE alone, an acceptance within the frame. -/
theorem exec_event {i : Instr} (s : State) (hi : i = .tick ∨ i = .cal ∨ i = .tickCal ∨ i = .idle) :
    ∃ k, exec i s = .next (inIdle s k) ∧ EventFrame s (k s) := by
  obtain rfl | rfl | rfl | rfl := hi
  · exact ⟨_, exec_tick s, rfl⟩
  · exact ⟨_, exec_cal s, rfl⟩
  · exact ⟨_, exec_tickCal s, acceptBoth_eventFrame s⟩
  · refine ⟨_, rfl, ?_⟩
    cases s.calPend <;> cases s.tickPend
    exacts [rfl, rfl, rfl, acceptBoth_eventFrame s]

/-- Settles O38: in IDLE the acceptance stays within the frame, and outside it there is none. -/
theorem eventsWriteOnlyFlagsAndPhase : Obligations.EventsWriteOnlyFlagsAndPhase := by
  intro i s t hi hb h
  obtain ⟨k, hk, hframe⟩ := exec_event s hi
  obtain rfl := Host.Outcome.next.inj (hk.symm.trans h)
  by_cases hp : s.phase = Phase.idle
  · rw [inIdle_idle hb hp]
    exact ⟨hframe, fun hbusy => absurd hp hbusy⟩
  · rw [inIdle_busy hb hp]
    exact ⟨rfl, fun _ => rfl⟩

/-! ### The stop and the quiet wait -/

theorem step_of_stuck_at_end {s : State} {f : Fault} (hs : s.stuck = some f) (hr : s.now.rst = false)
    (hsc : s.script = []) : step s = .fault f := by
  have hheld : heldBefore s = some (.fault f) := by simp [heldBefore, hr, hs, hsc]
  rw [step, hheld]

/-- Settles O10: the two outcomes of a held controller. -/
theorem stuckControllerHasNoFurtherStep : Obligations.StuckControllerHasNoFurtherStep :=
  fun _ _ hs hr => ⟨step_of_stuck_at_end hs hr, step_of_stuck hs hr⟩

/-- Settles O41: phase IDLE takes nothing, the quiet ports bring nothing, and there is no script entry to spend. -/
theorem idleWaitChangesNothing : Obligations.IdleWaitChangesNothing := by
  rintro s ⟨hs, hp, hb, ht, hc⟩ hsc
  have hnow : s.now = s.quiet := by rw [State.now, hsc]
  have hr : s.now.rst = false := by rw [hnow]; rfl
  have hfetch : s.fetch = .ok .idle := by rw [fetch_phase hr (.inr ⟨hc, ht⟩), hp]; rfl
  have hidle : exec .idle s = .next s := by rw [exec_idle_pending (by rw [hb]; decide) hp, hc, ht]
  rw [step_of_fetch (.inl hs) hfetch hidle, finishStep_steadyCal hr (by rw [hnow]; rfl) rfl,
    latchTick_quiet (by rw [hnow]; rfl), State.dropInput, hsc, List.tail_nil, ← hsc]

/-- Settles O44: the word fetched is RESET, and the step's close latches nothing. -/
theorem resetComesFirstInEveryState : Obligations.ResetComesFirstInEveryState := by
  intro s hr
  have hstep := step_of_fetch (.inr hr) (fetch_reset hr) (exec_reset s.calPend s.tickPend s)
  rw [finishStep_reset hr] at hstep
  exact ⟨_, hstep, rfl, rfl, rfl, rfl, rfl, rfl, rfl, rfl, rfl⟩

end Sys2Proof.Machine
end

section
/-! PROOFS. What reset puts in every register, and the state right after reset (family `70_reset_and_hazards.md`). -/

namespace Sys2Proof.Machine

/-- With the indicator OFF the line is at the OFF level, the opposite of LED_ACTIVE_LEVEL (10_state.md R21). -/
theorem State.led_of_ind_off {s : State} (h : s.ind = false) : s.led = decide (s.cfg.ledActiveLevel = .low) := by
  unfold State.led
  cases s.cfg.ledActiveLevel
  case low => simp [h]
  case high => simp [h]

/-- Settles O42: RESET is `State.applyReset`, whose registers are the table of R273, and which turns the indicator OFF. -/
theorem resetPutsEveryRegisterAtItsResetValue : Obligations.ResetPutsEveryRegisterAtItsResetValue := by
  intro c k s
  have hled : s.applyReset.led = decide (s.cfg.ledActiveLevel = .low) := State.led_of_ind_off s.applyReset_ind
  exact ⟨s.applyReset, exec_reset c k s, rfl, rfl, rfl, rfl, rfl, rfl, rfl, rfl, rfl, rfl, rfl, rfl, rfl, rfl, hled⟩

/-- Settles O45: each is a field of `State.reset`, and the default configuration arbitrates by ANY. -/
theorem resetStateHoldsTheSpecifiedValues : Obligations.ResetStateHoldsTheSpecifiedValues :=
  ⟨rfl, rfl, rfl, rfl, rfl, rfl, rfl, rfl, rfl, rfl, rfl, rfl, rfl, rfl⟩

/-- Settles O48: after reset no transaction is in progress and hcnt is full, and the indicator is OFF. -/
theorem resetStateMeetsTheInvariants : Obligations.ResetStateMeetsTheInvariants := by
  have hbus : State.reset.BusIdle := ⟨rfl, rfl, rfl⟩
  have hoff : State.reset.ind = false := rfl
  refine ⟨hbus.legal (by decide) (by decide), fun _ hon => ?_⟩
  rw [hoff] at hon
  cases hon

end Sys2Proof.Machine
end
